-- ==== Sys2Proof/Word.lean ====
section
/-! DEFINITION. The bit-vector types of the spec's u8, u16 and u7 (00_scope.md R12). -/

namespace Sys2Proof

/-- u8. -/
abbrev Byte := BitVec 8

/-- u16: the wValue, wIndex and wLength fields, and CTL_LEN and CTL_OFF. -/
abbrev Word := BitVec 16

/-- u7: a USB function address (10_state.md R21). -/
abbrev UsbAddr := BitVec 7

end Sys2Proof
end

