-- ==== Sys2Proof/Config.lean ====
section
/-! DEFINITION. The implementation parameters of 00_scope.md R6 to R10 as plain data, and their reference
values (92_eei_decisions.md). A machine carries its parameters in the field `params` of its state, so that a
statement about every state holds for every value of the parameters; no step writes them (assumption 1). -/

namespace Sys2Proof

/-- The endpoints the engine configures (00_scope.md R11): control endpoint 0 and the report endpoint 1. -/
inductive EpNumber where
  | ep0
  | ep1
deriving DecidableEq, Repr

/-- The direction argument of `ConfigEP` (20_memory.md R41). -/
inductive EpDirection where
  | control
  | input
deriving DecidableEq, Repr

/-- The type argument of `ConfigEP` (20_memory.md R41). -/
inductive EpType where
  | control
  | interrupt
deriving DecidableEq, Repr

/-- The source's EndpointConfig: `(number, direction, type, size, banks)` (20_memory.md R41). -/
structure EndpointConfig where
  number : EpNumber
  direction : EpDirection
  kind : EpType
  size : Nat
  banks : Nat
deriving DecidableEq, Repr

/-- P_DESC: the four byte tables of the Descriptor Store (00_scope.md R8, 20_memory.md R37). -/
structure DescTables where
  device : List Byte
  config : List Byte
  hid : List Byte
  report : List Byte
deriving DecidableEq, Repr

/-- P_IFACE_GET_DESCRIPTOR (00_scope.md R10). -/
inductive IfaceGetDescriptor where
  | stall
  | serve
deriving DecidableEq, Repr

/-- The parameters of 00_scope.md R6 to R10. `cfgRejected` lists the endpoint configurations the peripheral
rejects: P_CFG_OK(c) is "c is not listed" (R9), so P_CFG_OK is plain data. -/
structure Params where
  /-- P_EP0_SIZE (R6) -/
  ep0Size : Nat
  /-- P_EP1_SIZE (R7) -/
  ep1Size : Nat
  /-- P_EP1_BANKS (R7) -/
  ep1Banks : Nat
  /-- P_EP1_INTERVAL (R7) -/
  ep1Interval : Nat
  /-- P_DESC (R8) -/
  desc : DescTables
  /-- P_CFG_OK (R9) -/
  cfgRejected : List EndpointConfig
  /-- P_IFACE_GET_DESCRIPTOR (R10) -/
  ifaceGetDescriptor : IfaceGetDescriptor
deriving DecidableEq, Repr

/-- REPORT_LEN (30_encoding.md R66). -/
def reportLen : Nat := 3

/-- REF_DESC's device descriptor (92_eei_decisions.md D35). -/
def refDevice : List Byte :=
  [0x12, 0x01, 0x00, 0x02, 0x00, 0x00, 0x00, 0x08, 0x00] ++
  [0x00, 0x00, 0x00, 0x00, 0x01, 0x00, 0x00, 0x00, 0x01]

/-- REF_DESC's HID descriptor (92_eei_decisions.md D35). -/
def refHid : List Byte := [0x09, 0x21, 0x11, 0x01, 0x00, 0x01, 0x22, 0x38, 0x00]

/-- REF_DESC's configuration block (92_eei_decisions.md D35). -/
def refConfig : List Byte :=
  [0x09, 0x02, 0x22, 0x00, 0x01, 0x01, 0x00, 0x80, 0x32] ++
  [0x09, 0x04, 0x00, 0x00, 0x01, 0xFF, 0x00, 0x00, 0x00] ++
  refHid ++
  [0x07, 0x05, 0x81, 0x03, 0x08, 0x00, 0x0A]

/-- REF_DESC's report descriptor (92_eei_decisions.md D35). -/
def refReport : List Byte :=
  [0x05, 0x01, 0x09, 0x05, 0xA1, 0x01, 0x09, 0x39, 0x15, 0x00, 0x25, 0x07, 0x35, 0x00] ++
  [0x46, 0x3B, 0x01, 0x65, 0x14, 0x75, 0x04, 0x95, 0x01, 0x81, 0x42, 0x65, 0x00, 0x75] ++
  [0x04, 0x95, 0x01, 0x81, 0x01, 0x05, 0x09, 0x19, 0x01, 0x29, 0x0A, 0x15, 0x00, 0x25] ++
  [0x01, 0x75, 0x01, 0x95, 0x0A, 0x81, 0x02, 0x75, 0x06, 0x95, 0x01, 0x81, 0x01, 0xC0]

/-- REF_DESC. -/
def refDesc : DescTables :=
  { device := refDevice, config := refConfig, hid := refHid, report := refReport }

/-- The reference values of 92_eei_decisions.md: those of the test vectors, and of `State.reset`. -/
def Params.reference : Params :=
  { ep0Size := 8, ep1Size := 8, ep1Banks := 1, ep1Interval := 10, desc := refDesc,
    cfgRejected := [], ifaceGetDescriptor := .stall }

end Sys2Proof
end

