-- ==== Sys2Proof/Machine/State.lean ====
section
/-! DEFINITION. The machine's state as plain data: the engine registers of 10_state.md R19 (S items), the
peripheral interface of R32 to R34 (P items), the fixed parameters, and the outside world's pending inputs and
what the host has got. -/

namespace Sys2Proof.Machine

/-- DEV_STATE (10_state.md R20). -/
inductive DevState where
  | powered
  | default
  | addressed
  | configured
deriving DecidableEq, Repr

/-- CTL_STAGE (10_state.md R25). -/
inductive CtlStage where
  | idle
  | dataIn
  | statusOut
  | statusIn
deriving DecidableEq, Repr

/-- FAULT[2:1] (10_state.md R29); the value 3 is not used. -/
inductive FaultCause where
  | none
  | ep0Rejected
  | ep1Rejected
deriving DecidableEq, Repr

/-- A GamepadReport: LAST_REPORT0 to LAST_REPORT2, and a packet of endpoint 1 (30_encoding.md R66). -/
structure Report where
  b0 : Byte
  b1 : Byte
  b2 : Byte
deriving DecidableEq, Repr

/-- What `Sample()` returns when a new sample is available (30_encoding.md R67). -/
structure Snapshot where
  buttons : BitVec 10
  hat : BitVec 4
deriving DecidableEq, Repr

/-- A host bus action (60_exceptions.md R135). A SETUP token is always to endpoint 0. -/
inductive HostAction where
  | reset
  | setup (addr : UsbAddr) (bytes : List Byte)
  | inToken (addr : UsbAddr) (ep : BitVec 4)
  | outPacket (addr : UsbAddr) (ep : BitVec 4) (bytes : List Byte)
deriving DecidableEq, Repr

/-- What the host gets from a SETUP, IN or OUT (60_exceptions.md R135). -/
inductive Answer where
  | noHandshake
  | ack
  | nak
  | stall
  | data (bytes : List Byte)
deriving DecidableEq, Repr

/-- One input of the outside world. The list of them in State fixes which agent moves next, so that every
interleaving of host and engine steps is some list (00_scope.md R16, assumption 2). -/
inductive Input where
  /-- the host acts -/
  | host (a : HostAction)
  /-- the engine is given a turn -/
  | engine
  /-- from now on `Sample()` returns `d` (45_report_endpoint.md R116) -/
  | sample (d : Option Snapshot)
  /-- an event word is injected (30_encoding.md R69, 45_report_endpoint.md R115) -/
  | event (w : Byte)
deriving DecidableEq, Repr

/-- The call site of an `Arm` (20_memory.md R39). -/
inductive ArmSite where
  | firstChunk
  | nextChunk
  | owedZlp
  | statusZlp
  | report
deriving DecidableEq, Repr

/-- Which parameter or clause of 20_memory.md R54 is broken. -/
inductive Rejection where
  /-- P_EP0_SIZE is none of 8, 16, 32, 64 (00_scope.md R6) -/
  | ep0Size
  /-- P_EP1_SIZE is outside 3 to 64 (00_scope.md R7) -/
  | ep1Size
  /-- P_EP1_BANKS is neither 1 nor 2 (00_scope.md R7) -/
  | ep1Banks
  /-- P_EP1_INTERVAL is outside 1 to 255 (00_scope.md R7) -/
  | ep1Interval
  /-- R54 (1): a returned length exceeds its table -/
  | returnedLength
  /-- R54 (2) -/
  | deviceDescriptor
  /-- R54 (3) -/
  | configurationBlock
  /-- R54 (4) -/
  | hidDescriptor
  /-- R54 (5) -/
  | stringIndex
  /-- R54 (6) -/
  | reportDescriptor
deriving DecidableEq, Repr

/-- Why the machine stops. -/
inductive Fault where
  /-- Raised by `step` when the engine is halted and the outside world has nothing more to do: the stuck fault
  of 60_exceptions.md R123. Safe: the engine takes no step there. -/
  | halted (cause : FaultCause)
  /-- Raised by `fifoRead0`: a ninth FifoRead(0) of one SETUP (93_implementation_defined.md U6). Safe:
  unreachable by the rules. -/
  | setupFifoEmpty
  /-- Raised by `arm0` and `arm1`: `Arm` with its precondition broken (93_implementation_defined.md U7). Safe:
  unreachable by the rules. -/
  | armPrecondition (site : ArmSite)
  /-- Raised by a GET_DESCRIPTOR whose table is shorter than its own length field (20_memory.md R53). Safe:
  unreachable with admitted parameters (R54 (1)). -/
  | descriptorOverrun (type : Byte)
deriving DecidableEq, Repr

/-- Why the model gives no meaning. -/
inductive Refusal where
  /-- Raised by `exec` for an instruction that has no meaning yet. Safe. -/
  | notModelled (mnemonic : String)
  /-- Raised by `step` for an injected word that names no event (93_implementation_defined.md U8: refuse).
  Safe. -/
  | unknownEvent (w : Byte)
  /-- Raised by POWER_ON when the parameters are not admitted (20_memory.md R54, 93_implementation_defined.md
  U9: refuse). Safe. -/
  | parameters (r : Rejection)
deriving DecidableEq, Repr

/-- The machine. S items are 10_state.md R19's registers, each held as what its fields mean (`readReg` in
Flags.lean gives the numbered registers' bits); P items are R32 to R34's. -/
structure State where
  /-- S DEV_STATE, register 0x00 -/
  devState : DevState
  /-- S ADDRESS[6:0], register 0x01 -/
  address : UsbAddr
  /-- S CONFIGURATION, register 0x02 -/
  configuration : Byte
  /-- S INTERFACE_ALT, register 0x03 -/
  interfaceAlt : Byte
  /-- S IDLE_RATE, register 0x04 -/
  idleRate : Byte
  /-- S CTL_STAGE, register 0x05 -/
  ctlStage : CtlStage
  /-- S CTL_LEN, register 0x06 -/
  ctlLen : Word
  /-- S CTL_OFF, register 0x07 -/
  ctlOff : Word
  /-- S CTL_FLAGS[0], register 0x08: a terminating zero-length packet is owed -/
  zlpOwed : Bool
  /-- S CTL_FLAGS[1], register 0x08: CTL_PADDR is valid -/
  paddrValid : Bool
  /-- S CTL_PADDR[6:0], register 0x09 -/
  ctlPaddr : UsbAddr
  /-- S EP_STATUS[0], register 0x0A -/
  ep0Enabled : Bool
  /-- S EP_STATUS[1], register 0x0A -/
  ep0Stall : Bool
  /-- S EP_STATUS[2], register 0x0A -/
  ep1Active : Bool
  /-- S FAULT[0], register 0x0B -/
  halted : Bool
  /-- S FAULT[2:1], register 0x0B -/
  faultCause : FaultCause
  /-- S LAST_REPORT0 to 2, registers 0x0C to 0x0E -/
  lastReport : Report
  /-- S CTL_BUF -/
  ctlBuf : List Byte
  /-- P.pad_enabled -/
  padEnabled : Bool
  /-- P.usb_enabled -/
  usbEnabled : Bool
  /-- P.attached -/
  attached : Bool
  /-- the bus-event interrupt source is enabled (60_exceptions.md R124, 70_reset_and_hazards.md R138) -/
  busIntEnabled : Bool
  /-- the communication-event interrupt source is enabled (60_exceptions.md R124, 70_reset_and_hazards.md R138) -/
  comIntEnabled : Bool
  /-- P.flag_bus_reset -/
  flagBusReset : Bool
  /-- P.flag_setup -/
  flagSetup : Bool
  /-- P.flag_out0 -/
  flagOut0 : Bool
  /-- P.flag_in0 -/
  flagIn0 : Bool
  /-- P.setup_latch -/
  setupLatch : Vector Byte 8
  /-- P.setup_rd, 0 to 8 -/
  setupRd : Nat
  /-- P.out0_latch -/
  out0Latch : List Byte
  /-- P.ep0_in: the EP0 IN bank -/
  ep0In : Option (List Byte)
  /-- P.ep1_banks: the EP1 IN banks, oldest first -/
  ep1Banks : List Report
  /-- the parameters of 00_scope.md: fixed, no step writes them (assumption 1) -/
  params : Params
  /-- what `Sample()` returns now (45_report_endpoint.md R116, assumption 3) -/
  sampler : Option Snapshot
  /-- the outside world's inputs still to come, first first (assumption 2) -/
  inputs : List Input
  /-- what the host has got, oldest first (assumption 4) -/
  answers : List Answer
deriving DecidableEq, Repr

/-- Before the power-on step: every item at its reset value (70_reset_and_hazards.md R139), the parameters at
the reference values, nothing pending in the outside world. The first step from here is POWER_ON (R138;
assumption 5). -/
def State.reset : State :=
  { devState := .powered, address := 0, configuration := 0, interfaceAlt := 0, idleRate := 0,
    ctlStage := .idle, ctlLen := 0, ctlOff := 0, zlpOwed := false, paddrValid := false, ctlPaddr := 0,
    ep0Enabled := false, ep0Stall := false, ep1Active := false, halted := false, faultCause := .none,
    lastReport := ⟨0x08, 0x00, 0x00⟩, ctlBuf := [],
    padEnabled := false, usbEnabled := false, attached := false,
    busIntEnabled := false, comIntEnabled := false,
    flagBusReset := false, flagSetup := false, flagOut0 := false, flagIn0 := false,
    setupLatch := #v[0, 0, 0, 0, 0, 0, 0, 0], setupRd := 0, out0Latch := [],
    ep0In := none, ep1Banks := [],
    params := Params.reference, sampler := none, inputs := [], answers := [] }

end Sys2Proof.Machine
end

