-- ==== Sys2Proof/Machine/Flags.lean ====
section
/-! DEFINITION. Flag computations, and the numbered registers' bits as views of State (10_state.md R19). -/

namespace Sys2Proof.Machine

/-- Whether a terminating zero-length packet is owed after `len` bytes to a host that asked for `w`
(41_control_transfer.md R81). -/
def zlpNeeded (ep0Size len w : Nat) : Bool := decide (len % ep0Size = 0 ∧ len < w)

/-- The IN-ready condition of endpoint 1, a level and not a stored flag (10_state.md R33). -/
def ep1BankFree (s : State) : Bool := s.ep1Active && s.ep1Banks.length < s.params.ep1Banks

/-- DEV_STATE[1:0] (10_state.md R19). -/
def DevState.code : DevState → Nat
  | .powered => 0
  | .default => 1
  | .addressed => 2
  | .configured => 3

/-- CTL_STAGE[1:0] (10_state.md R19). -/
def CtlStage.code : CtlStage → Nat
  | .idle => 0
  | .dataIn => 1
  | .statusOut => 2
  | .statusIn => 3

/-- FAULT[2:1] (10_state.md R19). -/
def FaultCause.code : FaultCause → Nat
  | .none => 0
  | .ep0Rejected => 1
  | .ep1Rejected => 2

/-- The numbered registers (10_state.md R19). -/
inductive Reg where
  | devState
  | address
  | configuration
  | interfaceAlt
  | idleRate
  | ctlStage
  | ctlLen
  | ctlOff
  | ctlFlags
  | ctlPaddr
  | epStatus
  | fault
  | lastReport0
  | lastReport1
  | lastReport2
deriving DecidableEq, Repr

/-- A register's number (10_state.md R19). -/
def Reg.number : Reg → Nat
  | .devState => 0x00
  | .address => 0x01
  | .configuration => 0x02
  | .interfaceAlt => 0x03
  | .idleRate => 0x04
  | .ctlStage => 0x05
  | .ctlLen => 0x06
  | .ctlOff => 0x07
  | .ctlFlags => 0x08
  | .ctlPaddr => 0x09
  | .epStatus => 0x0A
  | .fault => 0x0B
  | .lastReport0 => 0x0C
  | .lastReport1 => 0x0D
  | .lastReport2 => 0x0E

/-- A register's width in bits (10_state.md R19). -/
def Reg.width : Reg → Nat
  | .devState | .ctlStage => 2
  | .ctlLen | .ctlOff => 16
  | _ => 8

/-- A flag as a bit. -/
def bit (b : Bool) : Nat := if b then 1 else 0

/-- A register's value, its fields in place and its other bits 0 (10_state.md R19). -/
def readReg (r : Reg) (s : State) : Nat :=
  match r with
  | .devState => s.devState.code
  | .address => s.address.toNat
  | .configuration => s.configuration.toNat
  | .interfaceAlt => s.interfaceAlt.toNat
  | .idleRate => s.idleRate.toNat
  | .ctlStage => s.ctlStage.code
  | .ctlLen => s.ctlLen.toNat
  | .ctlOff => s.ctlOff.toNat
  | .ctlFlags => bit s.zlpOwed + 2 * bit s.paddrValid
  | .ctlPaddr => s.ctlPaddr.toNat
  | .epStatus => bit s.ep0Enabled + 2 * bit s.ep0Stall + 4 * bit s.ep1Active
  | .fault => bit s.halted + 2 * s.faultCause.code
  | .lastReport0 => s.lastReport.b0.toNat
  | .lastReport1 => s.lastReport.b1.toNat
  | .lastReport2 => s.lastReport.b2.toNat

end Sys2Proof.Machine
end

