-- ==== Sys2Proof/Syntax.lean ====
section
/-! DEFINITION. The instruction set: the 27 request rows of the dispatch map and the 6 event words, one
constructor per row of spec/opcode_table.json (30_encoding.md R62, R69). -/

namespace Sys2Proof

/-- The operand fields of a SETUP packet, bytes 2 to 7 (30_encoding.md R58, R61). -/
structure SetupArgs where
  value : Word
  index : Word
  length : Word
deriving DecidableEq, Repr

/-- The parsed SETUP packet (30_encoding.md R58; it exists only inside one run of the SETUP handler,
10_state.md R31). -/
structure SetupPacket where
  requestType : Byte
  request : Byte
  args : SetupArgs
deriving DecidableEq, Repr

/-- One constructor per row of the opcode table. A request carries every operand field of its packet, read by
its rule or not; a row-27 request carries its key too. An event carries no operand: the SETUP bytes are not
part of the event word. -/
inductive Instr where
  -- standard, recipient device (42_std_device.md)
  | getStatusDevice (a : SetupArgs)
  | clearFeatureDevice (a : SetupArgs)
  | setFeatureDevice (a : SetupArgs)
  | setAddress (a : SetupArgs)
  | getDescriptorDevice (a : SetupArgs)
  | setDescriptor (a : SetupArgs)
  | getConfiguration (a : SetupArgs)
  | setConfigurationDevice (a : SetupArgs)
  -- standard, recipient interface (43_std_interface_endpoint.md)
  | getStatusInterface (a : SetupArgs)
  | clearFeatureInterface (a : SetupArgs)
  | setFeatureInterface (a : SetupArgs)
  | getDescriptorInterface (a : SetupArgs)
  | setConfigurationInterface (a : SetupArgs)
  | getInterface (a : SetupArgs)
  | setInterface (a : SetupArgs)
  | synchFrameInterface (a : SetupArgs)
  -- standard, recipient endpoint (43_std_interface_endpoint.md)
  | getStatusEndpoint (a : SetupArgs)
  | clearFeatureEndpoint (a : SetupArgs)
  | setFeatureEndpoint (a : SetupArgs)
  | synchFrameEndpoint (a : SetupArgs)
  -- class, recipient interface (44_hid_class.md)
  | getReport (a : SetupArgs)
  | getIdle (a : SetupArgs)
  | getProtocol (a : SetupArgs)
  | setReport (a : SetupArgs)
  | setIdle (a : SetupArgs)
  | setProtocol (a : SetupArgs)
  -- row 27 (41_control_transfer.md R85)
  | unrecognized (requestType request : Byte) (a : SetupArgs)
  -- events (30_encoding.md R69)
  | powerOn
  | busReset
  | setupReceived
  | inReady0
  | inReady1
  | outReceived0
deriving DecidableEq, Repr

/-- Whether the instruction is an event word and not a SETUP packet. -/
def Instr.isEvent : Instr → Bool
  | .powerOn | .busReset | .setupReceived | .inReady0 | .inReady1 | .outReceived0 => true
  | _ => false

/-- The length of the instruction's encoding in bytes (30_encoding.md R64, R69). -/
def Instr.byteLength (i : Instr) : Nat := if i.isEvent then 1 else 8

end Sys2Proof
end

