-- ==== Sys2Proof/WellFormed.lean ====
section
/-! DEFINITION. Which instruction terms stand for an encoding. Every operand field takes every value of its
width; the one check is that a row-27 request's key is matched by no row before it (30_encoding.md R62). -/

namespace Sys2Proof

/-- The keys (bmRequestType, bRequest) of dispatch rows 1 to 26 (30_encoding.md R62). -/
def recognizedKeys : List (Byte × Byte) :=
  [(0x80, 0x00), (0x00, 0x01), (0x00, 0x03), (0x00, 0x05), (0x80, 0x06), (0x00, 0x07), (0x80, 0x08),
   (0x00, 0x09)] ++
  [(0x81, 0x00), (0x01, 0x01), (0x01, 0x03), (0x81, 0x06), (0x01, 0x09), (0x81, 0x0A), (0x01, 0x0B),
   (0x81, 0x0C)] ++
  [(0x82, 0x00), (0x02, 0x01), (0x02, 0x03), (0x82, 0x0C)] ++
  [(0xA1, 0x01), (0xA1, 0x02), (0xA1, 0x03), (0x21, 0x09), (0x21, 0x0A), (0x21, 0x0B)]

/-- A row-27 request is well formed exactly when rows 1 to 26 do not match its key; every other term is. -/
def Instr.wf : Instr → Bool
  | .unrecognized t r _ => !recognizedKeys.contains (t, r)
  | _ => true

end Sys2Proof
end

