-- ==== Sys2Proof/Decode.lean ====
section
/-! DEFINITION. Decoding, total on any bytes, and the encoder. An instruction's bytes are one event word
(30_encoding.md R69) or one 8-byte SETUP packet (R58, R62); any other length is rejected by name. Byte order is
settled here: `le16` and its two inverses (20_memory.md R42). -/

namespace Sys2Proof

/-- A 16-bit field from its bytes: `lo | (hi << 8)` (20_memory.md R42 (b)). -/
def le16 (lo hi : Byte) : Word := hi ++ lo

/-- Bits 7:0 of a field. -/
def lowByte (w : Word) : Byte := w.extractLsb' 0 8

/-- Bits 15:8 of a field: the spec's `wValue >> 8` (30_encoding.md R61). -/
def highByte (w : Word) : Byte := w.extractLsb' 8 8

/-- Why bytes are no instruction. -/
inductive DecodeError where
  /-- an event word outside the table of 30_encoding.md R69 (93_implementation_defined.md U8) -/
  | unknownEvent (w : Byte)
  /-- neither one byte nor eight (30_encoding.md R57) -/
  | badLength (n : Nat)
deriving DecidableEq, Repr

/-- What decoding answers. -/
inductive Decoded where
  | instr (i : Instr)
  | rejected (e : DecodeError)
deriving DecidableEq, Repr

/-- Parse: the SETUP packet from its eight bytes in bus order (30_encoding.md R58). -/
def parseSetup (b0 b1 b2 b3 b4 b5 b6 b7 : Byte) : SetupPacket :=
  { requestType := b0, request := b1,
    args := { value := le16 b2 b3, index := le16 b4 b5, length := le16 b6 b7 } }

/-- One row of the dispatch map: its key and the instruction it names. -/
structure RequestRow where
  requestType : Byte
  request : Byte
  make : SetupArgs → Instr

/-- Dispatch rows 1 to 26, in order (30_encoding.md R62). -/
def requestRows : List RequestRow :=
  [⟨0x80, 0x00, .getStatusDevice⟩, ⟨0x00, 0x01, .clearFeatureDevice⟩, ⟨0x00, 0x03, .setFeatureDevice⟩,
   ⟨0x00, 0x05, .setAddress⟩, ⟨0x80, 0x06, .getDescriptorDevice⟩, ⟨0x00, 0x07, .setDescriptor⟩,
   ⟨0x80, 0x08, .getConfiguration⟩, ⟨0x00, 0x09, .setConfigurationDevice⟩] ++
  [⟨0x81, 0x00, .getStatusInterface⟩, ⟨0x01, 0x01, .clearFeatureInterface⟩,
   ⟨0x01, 0x03, .setFeatureInterface⟩, ⟨0x81, 0x06, .getDescriptorInterface⟩,
   ⟨0x01, 0x09, .setConfigurationInterface⟩, ⟨0x81, 0x0A, .getInterface⟩, ⟨0x01, 0x0B, .setInterface⟩,
   ⟨0x81, 0x0C, .synchFrameInterface⟩] ++
  [⟨0x82, 0x00, .getStatusEndpoint⟩, ⟨0x02, 0x01, .clearFeatureEndpoint⟩,
   ⟨0x02, 0x03, .setFeatureEndpoint⟩, ⟨0x82, 0x0C, .synchFrameEndpoint⟩] ++
  [⟨0xA1, 0x01, .getReport⟩, ⟨0xA1, 0x02, .getIdle⟩, ⟨0xA1, 0x03, .getProtocol⟩,
   ⟨0x21, 0x09, .setReport⟩, ⟨0x21, 0x0A, .setIdle⟩, ⟨0x21, 0x0B, .setProtocol⟩]

/-- The request a packet makes: the first row whose key matches both bytes, else row 27. -/
def requestOf (p : SetupPacket) : Instr :=
  match requestRows.find? (fun r => r.requestType == p.requestType && r.request == p.request) with
  | some r => r.make p.args
  | none => .unrecognized p.requestType p.request p.args

/-- The event a word names, by its kind (bits 7:4) and endpoint (bits 3:0) fields (30_encoding.md R69). -/
def eventOf (w : Byte) : Option Instr :=
  match (w.extractLsb' 4 4).toNat, (w.extractLsb' 0 4).toNat with
  | 0, 0 => some .powerOn
  | 1, 0 => some .busReset
  | 2, 0 => some .setupReceived
  | 3, 0 => some .inReady0
  | 3, 1 => some .inReady1
  | 4, 0 => some .outReceived0
  | _, _ => none

/-- The decoder. -/
def decode : List Byte → Decoded
  | [w] =>
    match eventOf w with
    | some i => .instr i
    | none => .rejected (.unknownEvent w)
  | [b0, b1, b2, b3, b4, b5, b6, b7] => .instr (requestOf (parseSetup b0 b1 b2 b3 b4 b5 b6 b7))
  | bytes => .rejected (.badLength bytes.length)

/-- The eight bytes of a request with key `(t, r)` (30_encoding.md R58). -/
def encodeRequest (t r : Byte) (a : SetupArgs) : List Byte :=
  [t, r, lowByte a.value, highByte a.value, lowByte a.index, highByte a.index,
   lowByte a.length, highByte a.length]

/-- The encoder: keys from 30_encoding.md R62, event words from R69. -/
def encode : Instr → List Byte
  | .getStatusDevice a => encodeRequest 0x80 0x00 a
  | .clearFeatureDevice a => encodeRequest 0x00 0x01 a
  | .setFeatureDevice a => encodeRequest 0x00 0x03 a
  | .setAddress a => encodeRequest 0x00 0x05 a
  | .getDescriptorDevice a => encodeRequest 0x80 0x06 a
  | .setDescriptor a => encodeRequest 0x00 0x07 a
  | .getConfiguration a => encodeRequest 0x80 0x08 a
  | .setConfigurationDevice a => encodeRequest 0x00 0x09 a
  | .getStatusInterface a => encodeRequest 0x81 0x00 a
  | .clearFeatureInterface a => encodeRequest 0x01 0x01 a
  | .setFeatureInterface a => encodeRequest 0x01 0x03 a
  | .getDescriptorInterface a => encodeRequest 0x81 0x06 a
  | .setConfigurationInterface a => encodeRequest 0x01 0x09 a
  | .getInterface a => encodeRequest 0x81 0x0A a
  | .setInterface a => encodeRequest 0x01 0x0B a
  | .synchFrameInterface a => encodeRequest 0x81 0x0C a
  | .getStatusEndpoint a => encodeRequest 0x82 0x00 a
  | .clearFeatureEndpoint a => encodeRequest 0x02 0x01 a
  | .setFeatureEndpoint a => encodeRequest 0x02 0x03 a
  | .synchFrameEndpoint a => encodeRequest 0x82 0x0C a
  | .getReport a => encodeRequest 0xA1 0x01 a
  | .getIdle a => encodeRequest 0xA1 0x02 a
  | .getProtocol a => encodeRequest 0xA1 0x03 a
  | .setReport a => encodeRequest 0x21 0x09 a
  | .setIdle a => encodeRequest 0x21 0x0A a
  | .setProtocol a => encodeRequest 0x21 0x0B a
  | .unrecognized t r a => encodeRequest t r a
  | .powerOn => [0x00]
  | .busReset => [0x10]
  | .setupReceived => [0x20]
  | .inReady0 => [0x30]
  | .inReady1 => [0x31]
  | .outReceived0 => [0x40]

/-- The `k`-th byte (bits 8k+7 to 8k) of a number. -/
def byteOfNat (w k : Nat) : Byte := BitVec.ofNat 8 (w / 256 ^ k)

/-- The bytes of an instruction whose bits the opcode table numbers as `w` (assumption 6). Up to 8 bits: an
event word. Otherwise a SETUP packet: the table's key word is `bmRequestType << 8 | bRequest`, so its high byte
is the packet's first byte; the words after it (wValue, wIndex, wLength) are little-endian. Bits at and above
`nbits` are 0. No instruction is longer than 64 bits. -/
def tableBytes (nbits w : Nat) : List Byte :=
  let w := w % 2 ^ nbits
  if nbits ≤ 8 then [byteOfNat w 0]
  else if nbits ≤ 64 then
    [byteOfNat w 1, byteOfNat w 0, byteOfNat w 2, byteOfNat w 3, byteOfNat w 4, byteOfNat w 5,
     byteOfNat w 6, byteOfNat w 7]
  else []

/-- The instruction the decoder reads from an opcode-table word. -/
def decodeTableWord (nbits w : Nat) : Option Instr :=
  match decode (tableBytes nbits w) with
  | .instr i => some i
  | .rejected _ => none

end Sys2Proof
end

