-- ==== Sys2Proof/Machine/Operands.lean ====
section
/-! DEFINITION. The operand forms of a request, as its rule reads them (30_encoding.md R61). -/

namespace Sys2Proof

/-- The descriptor type of GET_DESCRIPTOR: `wValue >> 8`. -/
def SetupArgs.descriptorType (a : SetupArgs) : Byte := highByte a.value

/-- The idle rate of SET_IDLE: `wValue >> 8`. -/
def SetupArgs.idleRate (a : SetupArgs) : Byte := highByte a.value

/-- The configuration value of SET_CONFIGURATION(device): `wValue[7:0]`. -/
def SetupArgs.configValue (a : SetupArgs) : Byte := lowByte a.value

/-- The address of SET_ADDRESS: `wValue[6:0]`. -/
def SetupArgs.newAddress (a : SetupArgs) : UsbAddr := a.value.extractLsb' 0 7

/-- `IfIndexOk` (43_std_interface_endpoint.md R96): all 16 bits of wIndex are 0. -/
def SetupArgs.ifIndexOk (a : SetupArgs) : Bool := a.index == 0x0000

/-- SET_INTERFACE and SET_CONFIGURATION(interface) accept only wValue 0. -/
def SetupArgs.valueIsZero (a : SetupArgs) : Bool := a.value == 0x0000

/-- The endpoints of the topology, as wIndex encodes them: endpoint 0 in either direction and endpoint 1 IN
(43_std_interface_endpoint.md R105). -/
def SetupArgs.endpointOk (a : SetupArgs) : Bool :=
  a.index == 0x0000 || a.index == 0x0080 || a.index == 0x0081

end Sys2Proof
end

