-- ==== Sys2Proof/Machine/Store.lean ====
section
/-! DEFINITION. The Descriptor Store (20_memory.md R51 to R53) and the admission of the parameters
(00_scope.md R6, R7; 20_memory.md R54, R55). -/

namespace Sys2Proof.Machine

/-- `MemRead(DESC + off, n)`: bytes off to off+n-1 of a table, where the precondition holds
(20_memory.md R53). -/
def memRead (table : List Byte) (off n : Nat) : Option (List Byte) :=
  if off + n ≤ table.length then some ((table.drop off).take n) else none

/-- The byte at offset `k` of a descriptor. -/
def byteAt (table : List Byte) (k : Nat) : Option Nat := table[k]?.map BitVec.toNat

/-- The little-endian 16-bit field at offset `k` (20_memory.md R42 (b)). -/
def wordAt (table : List Byte) (k : Nat) : Option Nat :=
  match table[k]?, table[k + 1]? with
  | some lo, some hi => some (le16 lo hi).toNat
  | _, _ => none

/-- What a lookup answers: an entry's bytes, no entry of the type, or a table shorter than its own length. -/
inductive Lookup where
  | found (bytes : List Byte)
  | unsupported
  | overrun
deriving DecidableEq, Repr

/-- The entry of a table whose length field reads `n`. -/
def readEntry (table : List Byte) (n : Option Nat) : Lookup :=
  match n.bind (memRead table 0) with
  | some bytes => .found bytes
  | none => .overrun

/-- `describe(t)` (20_memory.md R51): the length is read from the stored bytes (R52). -/
def describe (d : DescTables) (t : Byte) : Lookup :=
  if t = 0x01 then readEntry d.device (byteAt d.device 0)
  else if t = 0x02 then readEntry d.config (wordAt d.config 2)
  else if t = 0x21 then readEntry d.hid (byteAt d.hid 0)
  else if t = 0x22 then readEntry d.report (some d.report.length)
  else .unsupported

/-- P_CFG_OK (00_scope.md R9). -/
def cfgOk (p : Params) (c : EndpointConfig) : Bool := !p.cfgRejected.contains c

/-- The argument tuple of the bus reset's `ConfigEP` (20_memory.md R41). -/
def ep0Config (p : Params) : EndpointConfig :=
  { number := .ep0, direction := .control, kind := .control, size := p.ep0Size, banks := 1 }

/-- The argument tuple of SET_CONFIGURATION's `ConfigEP` (20_memory.md R41). -/
def ep1Config (p : Params) : EndpointConfig :=
  { number := .ep1, direction := .input, kind := .interrupt, size := p.ep1Size, banks := p.ep1Banks }

/-- Every listed byte of a table has the value beside it. -/
def bytesAre (table : List Byte) (want : List (Nat × Nat)) : Bool :=
  want.all (fun w => byteAt table w.1 == some w.2)

/-- 20_memory.md R54 (1). -/
def returnedLengthsOk (d : DescTables) : Bool :=
  [0x01, 0x02, 0x21, 0x22].all (fun t => describe d t != .overrun)

/-- 20_memory.md R54 (2): offsets 0 bLength, 1 bDescriptorType, 7 bMaxPacketSize0, 17 bNumConfigurations
(30_encoding.md R65). -/
def deviceDescriptorOk (p : Params) : Bool :=
  p.desc.device.length == 18 && bytesAre p.desc.device [(0, 18), (1, 0x01), (7, p.ep0Size), (17, 1)]

/-- 20_memory.md R54 (3): one configuration, interface, HID and endpoint descriptor in R65's order and layouts. That
the HID descriptor's bNumDescriptors (offset 23) is 1 is the model's choice, and so is which other bytes are not
looked at: R54 and R65 give them no value (assumption 25). -/
def configurationBlockOk (p : Params) : Bool :=
  let c := p.desc.config
  wordAt c 2 == some 34 && 34 ≤ c.length &&
  bytesAre c [(0, 9), (1, 0x02), (4, 1), (7, 0x80)] && byteAt c 5 != some 0 &&
  bytesAre c [(9, 9), (10, 0x04), (11, 0), (12, 0), (13, 1), (14, 0xFF)] &&
  bytesAre c [(18, 9), (19, 0x21), (23, 1), (24, 0x22)] &&
  bytesAre c [(27, 7), (28, 0x05), (29, 0x81), (33, p.ep1Interval)] &&
  (byteAt c 30).any (fun b => b % 4 == 3) && wordAt c 31 == some p.ep1Size

/-- 20_memory.md R54 (4). -/
def hidDescriptorOk (d : DescTables) : Bool :=
  d.hid == (d.config.drop 18).take 9 && wordAt d.hid 7 == some d.report.length

/-- A HID short item (30_encoding.md R65): type (0 main, 1 global, 2 local), tag, the number of its data bytes,
and the data as an unsigned number. -/
structure HidItem where
  kind : Nat
  tag : Nat
  size : Nat
  value : Nat
deriving DecidableEq, Repr

/-- Little-endian value of item data. -/
def leValue : List Byte → Nat
  | [] => 0
  | b :: rest => b.toNat + 256 * leValue rest

/-- The items of a byte list; none where an item is cut short or is no short item. `fuel` bounds the items by the
bytes. -/
def hidItems : Nat → List Byte → Option (List HidItem)
  | _, [] => some []
  | 0, _ => none
  | fuel + 1, b :: rest =>
    let n := match b.toNat % 4 with | 3 => 4 | k => k
    let kind := b.toNat / 4 % 4
    if rest.length < n || kind == 3 then none
    else
      match hidItems fuel (rest.drop n) with
      | some items => some (⟨kind, b.toNat / 16, n, leValue (rest.take n)⟩ :: items)
      | none => none

/-- The items of a report descriptor. -/
def reportItems (table : List Byte) : Option (List HidItem) := hidItems table.length table

/-- An item's data as a signed number of its own width: logical and physical bounds (assumption 24). -/
def HidItem.signed (i : HidItem) : Int :=
  if 2 * i.value < 2 ^ (8 * i.size) then i.value else (i.value : Int) - 2 ^ (8 * i.size)

/-- The global items in force. An item the table has not declared reads as 0, the model's choice: the spec is silent
(assumption 24). -/
structure HidGlobals where
  usagePage : Nat := 0
  logicalMin : Int := 0
  logicalMax : Int := 0
  physicalMin : Int := 0
  physicalMax : Int := 0
  unitExponent : Nat := 0
  unit : Nat := 0
  size : Nat := 0
  count : Nat := 0
deriving DecidableEq, Repr

/-- The usages `lo` to `hi`; an `extended` one carries its page in its upper half. -/
structure UsageRange where
  lo : Nat
  hi : Nat
  extended : Bool
deriving DecidableEq, Repr

/-- The local items in force: usages in order, and a usage bound whose other end has not come yet. -/
structure HidLocals where
  usages : List UsageRange := []
  usageMin : Option HidItem := none
  usageMax : Option HidItem := none
deriving DecidableEq, Repr

/-- One control of a report: its usage (page in the upper half), the flags of its Input item, and the global items
in force. -/
structure HidControl where
  usage : Nat
  flags : Nat
  globals : HidGlobals
deriving DecidableEq, Repr

/-- The fields of an input report, from bit 0 of byte 0 upward (20_memory.md R42 (c)): one padding bit, or one
control of `globals.size` bits. -/
inductive HidField where
  | padding
  | control (c : HidControl)
deriving DecidableEq, Repr

/-- What reading a report descriptor item by item keeps. -/
structure HidReader where
  globals : HidGlobals := {}
  stack : List HidGlobals := []
  locals : HidLocals := {}
  opened : Bool := false
  depth : Nat := 0
  fields : List HidField := []
deriving DecidableEq, Repr

/-- The `k`-th usage of a range. -/
def UsageRange.usage (page : Nat) (r : UsageRange) (k : Nat) : Nat :=
  (if r.extended then 0 else 0x10000 * page) + r.lo + k

/-- The usage of the `k`-th control of an item: the usages in order, the last one for every control left over.
Usages beyond an item's controls are not looked at: the spec is silent on them, and this is the model's choice
(assumption 24). -/
def usageAt (page : Nat) : List UsageRange → Nat → Option Nat
  | [], _ => none
  | [r], k => some (r.usage page (min k (r.hi - r.lo)))
  | r :: rest, k => if k ≤ r.hi - r.lo then some (r.usage page k) else usageAt page rest (k - (r.hi - r.lo + 1))

/-- The usages between two bounds. -/
def HidLocals.withRange (l : HidLocals) (lo hi : HidItem) : Option HidLocals :=
  if lo.value ≤ hi.value && (lo.size == 4) == (hi.size == 4) then
    some { usages := l.usages ++ [⟨lo.value, hi.value, lo.size == 4⟩] }
  else none

/-- A local item: Usage, Usage Minimum and Maximum in either order; designators and strings describe no field.
Delimiters and reserved tags are not read. -/
def HidLocals.item (l : HidLocals) (i : HidItem) : Option HidLocals :=
  match i.tag, l.usageMin, l.usageMax with
  | 0, _, _ => some { l with usages := l.usages ++ [⟨i.value, i.value, i.size == 4⟩] }
  | 1, none, none => some { l with usageMin := some i }
  | 1, none, some hi => l.withRange i hi
  | 2, none, none => some { l with usageMax := some i }
  | 2, some lo, none => l.withRange lo i
  | k, _, _ => if 3 ≤ k && k ≤ 9 && k != 6 then some l else none

/-- A global item. A Report ID (20_memory.md R55: none is declared), a Pop without its Push and a reserved tag are
not read. -/
def HidReader.globalItem (s : HidReader) (i : HidItem) : Option HidReader :=
  let g := s.globals
  match i.tag, s.stack with
  | 0, _ => some { s with globals := { g with usagePage := i.value } }
  | 1, _ => some { s with globals := { g with logicalMin := i.signed } }
  | 2, _ => some { s with globals := { g with logicalMax := i.signed } }
  | 3, _ => some { s with globals := { g with physicalMin := i.signed } }
  | 4, _ => some { s with globals := { g with physicalMax := i.signed } }
  | 5, _ => some { s with globals := { g with unitExponent := i.value } }
  | 6, _ => some { s with globals := { g with unit := i.value } }
  | 7, _ => some { s with globals := { g with size := i.value } }
  | 9, _ => some { s with globals := { g with count := i.value } }
  | 10, stack => some { s with stack := g :: stack }
  | 11, top :: rest => some { s with globals := top, stack := rest }
  | _, _ => none

/-- The bits of a field. -/
def HidField.bits : HidField → Nat
  | .padding => 1
  | .control c => c.globals.size

/-- The fields an Input item adds: constant bits are padding (flag bit 0); otherwise Report Count variable, absolute
controls (flag bits 1 and 2) that keep the flags. Reserved flag bits (7, and 9 up) are not read. A report longer than
REPORT_LEN, an array, a relative or a buffered-bytes field (bit 8) is not R66's. -/
def HidReader.inputFields (s : HidReader) (flags : Nat) : Option (List HidField) :=
  let g := s.globals
  if flags.testBit 7 || 0x200 ≤ flags then none
  else if 8 * reportLen < (s.fields.map HidField.bits).sum + g.size * g.count then none
  else if flags.testBit 0 then some (List.replicate (g.size * g.count) .padding)
  else if g.size == 0 || !flags.testBit 1 || flags.testBit 2 || flags.testBit 8 then none
  else
    (List.range g.count).mapM fun k =>
      (usageAt g.usagePage s.locals.usages k).map fun u => .control ⟨u, flags, g⟩

/-- The Game Pad usage of the Generic Desktop page. -/
def usageGamePad : Nat := 0x10005

/-- The Hat switch usage of the Generic Desktop page. -/
def usageHat : Nat := 0x10039

/-- Usage `k` of the Button page: button `k`. -/
def usageButton (k : Nat) : Nat := 0x90000 + k

/-- A main item: Input inside the collection, Collection, End Collection. The one top-level collection is the Game
Pad application (20_memory.md R55); collections of other types may nest in it. Where several usages stand before it the
first is its own, the model's choice (assumption 24). Output, Feature and reserved tags are not read: R66's report is
the only one (44_hid_class.md R112). -/
def HidReader.mainItem (s : HidReader) (i : HidItem) : Option HidReader :=
  if s.locals.usageMin.isSome || s.locals.usageMax.isSome then none
  else
    let t := { s with locals := {} }
    match i.tag, s.depth with
    | 8, _ + 1 => (s.inputFields i.value).map fun fs => { t with fields := s.fields ++ fs }
    | 10, 0 =>
      if !s.opened && i.value == 1 && usageAt s.globals.usagePage s.locals.usages 0 == some usageGamePad then
        some { t with opened := true, depth := 1 }
      else none
    | 10, d + 1 => if i.value == 1 then none else some { t with depth := d + 2 }
    | 12, d + 1 => some { t with depth := d }
    | _, _ => none

/-- One item. -/
def HidReader.item (s : HidReader) (i : HidItem) : Option HidReader :=
  match i.kind with
  | 0 => s.mainItem i
  | 1 => s.globalItem i
  | _ => (s.locals.item i).map fun l => { s with locals := l }

/-- All items in order. -/
def HidReader.run (s : HidReader) : List HidItem → Option HidReader
  | [] => some s
  | i :: rest =>
    match s.item i with
    | some t => t.run rest
    | none => none

/-- The fields of the input report a report descriptor describes, all in its one Game Pad application collection. -/
def reportFields (table : List Byte) : Option (List HidField) :=
  match (reportItems table).bind ({} : HidReader).run with
  | some s => if s.opened && s.depth == 0 then some s.fields else none
  | none => none

/-- Where a unit is declared, the physical range (the logical one where both bounds are 0) is 0 to 315 degrees
(30_encoding.md R66). That a hat without a unit is admitted whatever its physical bounds is the model's choice
(assumption 24). -/
def HidGlobals.angleOk (g : HidGlobals) : Bool :=
  let range := if g.physicalMin == 0 && g.physicalMax == 0 then (g.logicalMin, g.logicalMax)
    else (g.physicalMin, g.physicalMax)
  let e := g.unitExponent % 16
  g.unit == 0 ||
    (g.unit == 0x14 && range.1 == 0 &&
      (if e < 8 then range.2 * 10 ^ e == 315 else range.2 == 315 * 10 ^ (16 - e)))

/-- A padding bit. -/
def HidField.isPadding : HidField → Bool
  | .padding => true
  | .control _ => false

/-- The flags data, variable, absolute, null state, and no other: linear, without wrap, with a preferred state. -/
def hatFlags : Nat := 0x42

/-- The 4-bit hat switch, values 0 to 7, flagged "data,var,abs,null" (20_memory.md R55). -/
def HidField.isHat : HidField → Bool
  | .padding => false
  | .control c =>
    c.usage == usageHat && c.flags == hatFlags && c.globals.size == 4 && c.globals.logicalMin == 0 &&
    c.globals.logicalMax == 7 && c.globals.angleOk

/-- The single-bit button `k`, values 0 and 1 (20_memory.md R55, 30_encoding.md R66). R55 gives buttons no
flags, and R54, R55 and R66 no unit or physical bounds, so no flag beyond those `inputFields` asks for, no unit and no
physical bound in force on a button is looked at: the model's choice, the spec is silent (assumption 24). -/
def HidField.isButton (k : Nat) : HidField → Bool
  | .padding => false
  | .control c =>
    c.usage == usageButton k && c.globals.size == 1 && c.globals.logicalMin == 0 && c.globals.logicalMax == 1

/-- The report of 30_encoding.md R66, field by field: the hat, 4 padding bits, buttons 1 to 10, 6 padding bits. -/
def reportLayout : List (HidField → Bool) :=
  [HidField.isHat] ++ List.replicate 4 HidField.isPadding ++
  (List.range 10).map (fun k => HidField.isButton (k + 1)) ++ List.replicate 6 HidField.isPadding

/-- Each field is as the layout has it, and there is no other. -/
def fitsLayout : List (HidField → Bool) → List HidField → Bool
  | [], [] => true
  | p :: ps, f :: fs => p f && fitsLayout ps fs
  | _, _ => false

/-- 20_memory.md R54 (6), R55. -/
def reportDescriptorOk (table : List Byte) : Bool :=
  match reportFields table with
  | some fields => fitsLayout reportLayout fields
  | none => false

/-- A String Index, Minimum or Maximum item. -/
def HidItem.isString (i : HidItem) : Bool := i.kind == 2 && 7 ≤ i.tag && i.tag ≤ 9

/-- 20_memory.md R54 (5): iManufacturer, iProduct, iSerialNumber, iConfiguration, iInterface, and the report
descriptor's string items. -/
def stringIndicesOk (d : DescTables) : Bool :=
  bytesAre d.device [(14, 0), (15, 0), (16, 0)] && bytesAre d.config [(6, 0), (17, 0)] &&
  (reportItems d.report).all (fun items => items.all (fun i => !i.isString || i.value == 0))

/-- The checks of 00_scope.md R6, R7 and 20_memory.md R54, each with the name it is refused by. -/
def admissionChecks (p : Params) : List (Rejection × Bool) :=
  [(.ep0Size, [8, 16, 32, 64].contains p.ep0Size),
   (.ep1Size, reportLen ≤ p.ep1Size && p.ep1Size ≤ 64),
   (.ep1Banks, p.ep1Banks == 1 || p.ep1Banks == 2),
   (.ep1Interval, 1 ≤ p.ep1Interval && p.ep1Interval ≤ 255),
   (.returnedLength, returnedLengthsOk p.desc),
   (.deviceDescriptor, deviceDescriptorOk p),
   (.configurationBlock, configurationBlockOk p),
   (.hidDescriptor, hidDescriptorOk p.desc),
   (.stringIndex, stringIndicesOk p.desc),
   (.reportDescriptor, reportDescriptorOk p.desc.report)]

/-- The first check the parameters fail, if any. -/
def rejection (p : Params) : Option Rejection :=
  ((admissionChecks p).find? (fun c => !c.2)).map (·.1)

/-- The parameters meet every check. -/
abbrev Admitted (p : Params) : Prop := rejection p = none

end Sys2Proof.Machine
end

