-- ==== Sys2Proof/Machine/Ops.lean ====
section
/-! DEFINITION. The primitives of 00_scope.md R14 over the registers and buffers: FifoRead, Arm, Flush,
ConfigEP, DisableEP, Sample, Halt and Stall0; the report packing; taking a halt and leaving it. -/

namespace Sys2Proof.Machine

/-- What a handler answers. -/
abbrev Out := Host.Outcome State Fault Refusal

/-- `Stall0()` (00_scope.md R14). -/
def stall0 (s : State) : State := { s with ep0Stall := true }

/-- `Flush(0)` (20_memory.md R40). -/
def flush0 (s : State) : State := { s with ep0In := none }

/-- `Flush(1)` (20_memory.md R40). -/
def flush1 (s : State) : State := { s with ep1Banks := [] }

/-- `DisableEP(0)` (20_memory.md R41). -/
def disableEp0 (s : State) : State :=
  { flush0 s with flagIn0 := false, flagOut0 := false, ep0Enabled := false }

/-- `DisableEP(1)` (20_memory.md R41). -/
def disableEp1 (s : State) : State := { flush1 s with ep1Active := false }

/-- `DisableEP(n)`. -/
def disableEp : EpNumber → State → State
  | .ep0 => disableEp0
  | .ep1 => disableEp1

/-- The enable of an endpoint that `ConfigEP` ends in. -/
def enableEp : EpNumber → State → State
  | .ep0 => fun s => { s with ep0Enabled := true }
  | .ep1 => fun s => { s with ep1Active := true }

/-- `ConfigEP(n, dir, type, size, banks)` (20_memory.md R41): disable and clear, then enable if the peripheral
accepts. -/
def configEp (c : EndpointConfig) (s : State) : Bool × State :=
  let s := disableEp c.number s
  if cfgOk s.params c then (true, enableEp c.number s) else (false, s)

/-- `raise Halt(cause)` (60_exceptions.md R123), the engine's one exception: it saves nothing, records the
cause in FAULT, and no later step services an event. Nothing but POWER_ON leaves it (`resetItems`); a handler
has no return and nothing to restore (R126, R127). -/
def raiseHalt (cause : FaultCause) (s : State) : State := { s with halted := true, faultCause := cause }

/-- Every register and peripheral item at its reset value (70_reset_and_hazards.md R138, R139). The parameters
are constants; the outside world is not the engine's. -/
def resetItems (s : State) : State :=
  { State.reset with
    params := s.params, sampler := s.sampler, inputs := s.inputs, answers := s.answers }

/-- `FifoRead(0)` (20_memory.md R38); none is a ninth read. -/
def fifoRead0 (s : State) : Option (Byte × State) :=
  match s.setupLatch[s.setupRd]? with
  | some b => some (b, { s with setupRd := s.setupRd + 1 })
  | none => none

/-- Eight `FifoRead(0)` and the parse (30_encoding.md R58). -/
def readSetup (s : State) : Option (SetupPacket × State) := do
  let (b0, s) ← fifoRead0 s
  let (b1, s) ← fifoRead0 s
  let (b2, s) ← fifoRead0 s
  let (b3, s) ← fifoRead0 s
  let (b4, s) ← fifoRead0 s
  let (b5, s) ← fifoRead0 s
  let (b6, s) ← fifoRead0 s
  let (b7, s) ← fifoRead0 s
  return (parseSetup b0 b1 b2 b3 b4 b5 b6 b7, s)

/-- `Arm(0, bytes)` (20_memory.md R39). -/
def arm0 (site : ArmSite) (bytes : List Byte) (s : State) : Out :=
  if s.ep0In = none ∧ bytes.length ≤ s.params.ep0Size then .next { s with ep0In := some bytes }
  else .fault (.armPrecondition site)

/-- `Arm(1, report)` (20_memory.md R39). -/
def arm1 (r : Report) (s : State) : Out :=
  if s.ep1Active ∧ s.ep1Banks.length < s.params.ep1Banks then
    .next { s with ep1Banks := s.ep1Banks ++ [r] }
  else .fault (.armPrecondition .report)

/-- The bytes of a report in bus order (30_encoding.md R66). -/
def Report.bytes (r : Report) : List Byte := [r.b0, r.b1, r.b2]

/-- `Pack(s)` (45_report_endpoint.md R118). -/
def pack (d : Snapshot) : Report :=
  { b0 := d.hat.setWidth 8,
    b1 := d.buttons.extractLsb' 0 8,
    b2 := (d.buttons.extractLsb' 8 2).setWidth 8 }

/-- `Sample()` (45_report_endpoint.md R116): the engine's read changes nothing. -/
def sample (s : State) : Option Snapshot := s.sampler

/-- The draw of `CurrentReport()` (45_report_endpoint.md R117): the report it returns is the LAST_REPORT it
leaves. -/
def drawReport (s : State) : State :=
  match sample s with
  | some d => { s with lastReport := pack d }
  | none => s

end Sys2Proof.Machine
end

