-- ==== Sys2Proof/Machine/Control.lean ====
section
/-! DEFINITION. The Control Transfer Dispatcher's shared part (41_control_transfer.md): what a request rule
returns, the SETUP handler around it, and the three outcomes. -/

namespace Sys2Proof.Machine

/-- The STALL causes S1 to S6 (60_exceptions.md R121): labels only, the engine records none of them. -/
inductive StallCause where
  /-- S1 -/
  | unrecognizedRequest
  /-- S2 -/
  | unsupportedRequest
  /-- S3 -/
  | invalidIndex
  /-- S4 -/
  | invalidValue
  /-- S5 -/
  | invalidState
  /-- S6 -/
  | unsupportedType
deriving DecidableEq, Repr

/-- The outcome of a request rule (41_control_transfer.md R79). -/
inductive Reply where
  | stall (c : StallCause)
  | data (resp : List Byte)
  | noData (pa : Option UsbAddr)
deriving DecidableEq, Repr

/-- What running a request rule gives: an outcome with the registers the rule wrote, a halt raised in the rule,
or a model fault. -/
inductive RuleResult where
  | reply (r : Reply) (s : State)
  | halt (s : State)
  | fault (f : Fault)
deriving DecidableEq, Repr

/-- The SETUP handler between its eight reads and the dispatch (41_control_transfer.md R78): the flags cleared,
any transfer in flight aborted. -/
def abortTransfer (s : State) : State :=
  { flush0 s with
    flagSetup := false, ep0Stall := false, flagIn0 := false, flagOut0 := false,
    ctlStage := .idle, zlpOwed := false, paddrValid := false }

/-- `StallOutcome()` (41_control_transfer.md R80). -/
def stallOutcome (s : State) : State := { stall0 s with ctlStage := .idle }

/-- `BeginResponse(resp, w)` (41_control_transfer.md R81). -/
def beginResponse (resp : List Byte) (w : Word) (s : State) : Out :=
  let len := min w.toNat resp.length
  if len = 0 then arm0 .statusZlp [] { s with ctlStage := .statusIn }
  else
    let n := min s.params.ep0Size len
    arm0 .firstChunk ((resp.take len).take n)
      { s with
        ctlBuf := resp.take len, ctlLen := BitVec.ofNat 16 len,
        zlpOwed := zlpNeeded s.params.ep0Size len w.toNat,
        ctlOff := BitVec.ofNat 16 n, ctlStage := .dataIn }

/-- `NoDataOutcome(pa)` (41_control_transfer.md R82). -/
def noDataOutcome (pa : Option UsbAddr) (s : State) : Out :=
  match pa with
  | some a => arm0 .statusZlp [] { s with ctlStage := .statusIn, ctlPaddr := a, paddrValid := true }
  | none => arm0 .statusZlp [] { s with ctlStage := .statusIn }

/-- The outcome applied (41_control_transfer.md R78). -/
def applyReply (w : Word) : Reply → State → Out
  | .stall _, s => .next (stallOutcome s)
  | .data resp, s => beginResponse resp w s
  | .noData pa, s => noDataOutcome pa s

/-- A request rule: from the operand fields and the state after `abortTransfer`. -/
abbrev Rule := SetupArgs → State → RuleResult

/-- The SETUP handler from the parsed packet on (41_control_transfer.md R78): abort, run the rule, apply its
outcome. A rule that raised Halt ends the handler there (60_exceptions.md R123). -/
def serve (rule : Rule) (a : SetupArgs) (s : State) : Out :=
  match rule a (abortTransfer s) with
  | .reply r s => applyReply a.length r s
  | .halt s => .next s
  | .fault f => .fault f

/-- The descriptor lookup shared by both GET_DESCRIPTOR rows (42_std_device.md R92,
43_std_interface_endpoint.md R100). -/
def descriptorReply (a : SetupArgs) (s : State) : RuleResult :=
  match describe s.params.desc a.descriptorType with
  | .found bytes => .reply (.data bytes) s
  | .unsupported => .reply (.stall .unsupportedType) s
  | .overrun => .fault (.descriptorOverrun a.descriptorType)

/-- Row 27 (41_control_transfer.md R85). -/
def ruleUnrecognized : Rule := fun _ s => .reply (.stall .unrecognizedRequest) s

/-- UNRECOGNIZED (41_control_transfer.md R85). -/
def execUnrecognized (a : SetupArgs) (s : State) : Out := serve ruleUnrecognized a s

end Sys2Proof.Machine
end

