-- ==== Sys2Proof/Machine/HidClass.lean ====
section
/-! DEFINITION. HID class requests: dispatch rows 21 to 26 (44_hid_class.md). -/

namespace Sys2Proof.Machine

/-- R109: the draw is made whatever wLength is. -/
def ruleGetReport : Rule := fun a s =>
  if a.ifIndexOk then .reply (.data (drawReport s).lastReport.bytes) (drawReport s)
  else .reply (.stall .invalidIndex) s

/-- R110. -/
def ruleGetIdle : Rule := fun a s =>
  if a.ifIndexOk then .reply (.data [s.idleRate]) s else .reply (.stall .invalidIndex) s

/-- R111. -/
def ruleGetProtocol : Rule := fun _ s => .reply (.stall .unsupportedRequest) s

/-- R112. -/
def ruleSetReport : Rule := fun _ s => .reply (.stall .unsupportedRequest) s

/-- R113. -/
def ruleSetIdle : Rule := fun a s =>
  if a.ifIndexOk then .reply (.noData none) { s with idleRate := a.idleRate }
  else .reply (.stall .invalidIndex) s

/-- R114. -/
def ruleSetProtocol : Rule := fun _ s => .reply (.stall .unsupportedRequest) s

/-- GET_REPORT (R109). -/
def execGetReport (a : SetupArgs) (s : State) : Out := serve ruleGetReport a s

/-- GET_IDLE (R110). -/
def execGetIdle (a : SetupArgs) (s : State) : Out := serve ruleGetIdle a s

/-- GET_PROTOCOL (R111). -/
def execGetProtocol (a : SetupArgs) (s : State) : Out := serve ruleGetProtocol a s

/-- SET_REPORT (R112). -/
def execSetReport (a : SetupArgs) (s : State) : Out := serve ruleSetReport a s

/-- SET_IDLE (R113). -/
def execSetIdle (a : SetupArgs) (s : State) : Out := serve ruleSetIdle a s

/-- SET_PROTOCOL (R114). -/
def execSetProtocol (a : SetupArgs) (s : State) : Out := serve ruleSetProtocol a s

end Sys2Proof.Machine
end

