-- ==== Sys2Proof/Machine/StdDevice.lean ====
section
/-! DEFINITION. Standard requests to the device: dispatch rows 1 to 8 (42_std_device.md). -/

namespace Sys2Proof.Machine

/-- R88. -/
def ruleGetStatusDevice : Rule := fun _ s => .reply (.data [0x00, 0x00]) s

/-- R89. -/
def ruleClearFeatureDevice : Rule := fun _ s => .reply (.stall .unsupportedRequest) s

/-- R90. -/
def ruleSetFeatureDevice : Rule := fun _ s => .reply (.stall .unsupportedRequest) s

/-- R91: address 0 is a no-op. -/
def ruleSetAddress : Rule := fun a s =>
  if a.newAddress = 0 then .reply (.noData none) s else .reply (.noData (some a.newAddress)) s

/-- R92. -/
def ruleGetDescriptorDevice : Rule := fun a s => descriptorReply a s

/-- R93. -/
def ruleSetDescriptor : Rule := fun _ s => .reply (.stall .unsupportedRequest) s

/-- R94. -/
def ruleGetConfiguration : Rule := fun _ s => .reply (.data [s.configuration]) s

/-- R95. The halt leaves CONFIGURATION, INTERFACE_ALT and DEV_STATE as they were. -/
def ruleSetConfigurationDevice : Rule := fun a s =>
  if s.devState = .default then .reply (.stall .invalidState) s
  else if a.configValue = 0 then
    .reply (.noData none) { disableEp1 s with configuration := 0, devState := .addressed }
  else
    match configEp (ep1Config s.params) s with
    | (true, s) =>
      .reply (.noData none)
        { s with configuration := a.configValue, interfaceAlt := 0, devState := .configured }
    | (false, s) => .halt (raiseHalt .ep1Rejected s)

/-- GET_STATUS(device) (R88). -/
def execGetStatusDevice (a : SetupArgs) (s : State) : Out := serve ruleGetStatusDevice a s

/-- CLEAR_FEATURE(device) (R89). -/
def execClearFeatureDevice (a : SetupArgs) (s : State) : Out := serve ruleClearFeatureDevice a s

/-- SET_FEATURE(device) (R90). -/
def execSetFeatureDevice (a : SetupArgs) (s : State) : Out := serve ruleSetFeatureDevice a s

/-- SET_ADDRESS (R91). -/
def execSetAddress (a : SetupArgs) (s : State) : Out := serve ruleSetAddress a s

/-- GET_DESCRIPTOR(device) (R92). -/
def execGetDescriptorDevice (a : SetupArgs) (s : State) : Out := serve ruleGetDescriptorDevice a s

/-- SET_DESCRIPTOR (R93). -/
def execSetDescriptor (a : SetupArgs) (s : State) : Out := serve ruleSetDescriptor a s

/-- GET_CONFIGURATION (R94). -/
def execGetConfiguration (a : SetupArgs) (s : State) : Out := serve ruleGetConfiguration a s

/-- SET_CONFIGURATION(device) (R95). -/
def execSetConfigurationDevice (a : SetupArgs) (s : State) : Out := serve ruleSetConfigurationDevice a s

end Sys2Proof.Machine
end

