-- ==== Sys2Proof/Machine/StdEndpoint.lean ====
section
/-! DEFINITION. Standard requests to an endpoint: dispatch rows 17 to 20 (43_std_interface_endpoint.md). -/

namespace Sys2Proof.Machine

/-- R105's `Halted(i)`: 0 for every endpoint of the topology, since no endpoint can be halted. -/
def endpointHalted (_ : Word) : Byte := 0x00

/-- R105. -/
def ruleGetStatusEndpoint : Rule := fun a s =>
  if a.endpointOk then .reply (.data [endpointHalted a.index, 0x00]) s
  else .reply (.stall .invalidIndex) s

/-- R106. -/
def ruleClearFeatureEndpoint : Rule := fun _ s => .reply (.stall .unsupportedRequest) s

/-- R107. -/
def ruleSetFeatureEndpoint : Rule := fun _ s => .reply (.stall .unsupportedRequest) s

/-- R108. -/
def ruleSynchFrameEndpoint : Rule := fun _ s => .reply (.stall .unsupportedRequest) s

/-- GET_STATUS(endpoint) (R105). -/
def execGetStatusEndpoint (a : SetupArgs) (s : State) : Out := serve ruleGetStatusEndpoint a s

/-- CLEAR_FEATURE(endpoint) (R106). -/
def execClearFeatureEndpoint (a : SetupArgs) (s : State) : Out := serve ruleClearFeatureEndpoint a s

/-- SET_FEATURE(endpoint) (R107). -/
def execSetFeatureEndpoint (a : SetupArgs) (s : State) : Out := serve ruleSetFeatureEndpoint a s

/-- SYNCH_FRAME(endpoint) (R108). -/
def execSynchFrameEndpoint (a : SetupArgs) (s : State) : Out := serve ruleSynchFrameEndpoint a s

end Sys2Proof.Machine
end

