-- ==== Sys2Proof/Machine/StdInterface.lean ====
section
/-! DEFINITION. Standard requests to the interface: dispatch rows 9 to 16 (43_std_interface_endpoint.md). -/

namespace Sys2Proof.Machine

/-- R97. -/
def ruleGetStatusInterface : Rule := fun a s =>
  if a.ifIndexOk then .reply (.data [0x00, 0x00]) s else .reply (.stall .invalidIndex) s

/-- R98. -/
def ruleClearFeatureInterface : Rule := fun _ s => .reply (.stall .unsupportedRequest) s

/-- R99. -/
def ruleSetFeatureInterface : Rule := fun _ s => .reply (.stall .unsupportedRequest) s

/-- R100. -/
def ruleGetDescriptorInterface : Rule := fun a s =>
  if s.params.ifaceGetDescriptor = .stall then .reply (.stall .unsupportedRequest) s
  else if a.ifIndexOk then descriptorReply a s
  else .reply (.stall .invalidIndex) s

/-- R101: value 0 is accepted and writes no register. -/
def ruleSetConfigurationInterface : Rule := fun a s =>
  if !a.ifIndexOk then .reply (.stall .invalidIndex) s
  else if !a.valueIsZero then .reply (.stall .invalidValue) s
  else .reply (.noData none) s

/-- R102. -/
def ruleGetInterface : Rule := fun a s =>
  if a.ifIndexOk then .reply (.data [s.interfaceAlt]) s else .reply (.stall .invalidIndex) s

/-- R103. -/
def ruleSetInterface : Rule := fun a s =>
  if !a.ifIndexOk then .reply (.stall .invalidIndex) s
  else if !a.valueIsZero then .reply (.stall .invalidValue) s
  else .reply (.noData none) { s with interfaceAlt := 0 }

/-- R104. -/
def ruleSynchFrameInterface : Rule := fun _ s => .reply (.stall .unsupportedRequest) s

/-- GET_STATUS(interface) (R97). -/
def execGetStatusInterface (a : SetupArgs) (s : State) : Out := serve ruleGetStatusInterface a s

/-- CLEAR_FEATURE(interface) (R98). -/
def execClearFeatureInterface (a : SetupArgs) (s : State) : Out := serve ruleClearFeatureInterface a s

/-- SET_FEATURE(interface) (R99). -/
def execSetFeatureInterface (a : SetupArgs) (s : State) : Out := serve ruleSetFeatureInterface a s

/-- GET_DESCRIPTOR(interface) (R100). -/
def execGetDescriptorInterface (a : SetupArgs) (s : State) : Out := serve ruleGetDescriptorInterface a s

/-- SET_CONFIGURATION(interface) (R101). -/
def execSetConfigurationInterface (a : SetupArgs) (s : State) : Out :=
  serve ruleSetConfigurationInterface a s

/-- GET_INTERFACE (R102). -/
def execGetInterface (a : SetupArgs) (s : State) : Out := serve ruleGetInterface a s

/-- SET_INTERFACE (R103). -/
def execSetInterface (a : SetupArgs) (s : State) : Out := serve ruleSetInterface a s

/-- SYNCH_FRAME(interface) (R104). -/
def execSynchFrameInterface (a : SetupArgs) (s : State) : Out := serve ruleSynchFrameInterface a s

end Sys2Proof.Machine
end

