-- ==== Sys2Proof/Machine/Events.lean ====
section
/-! DEFINITION. The handlers of the six event words (30_encoding.md R69): POWER_ON, BUS_RESET, SETUP_RECEIVED
with the dispatch map, IN_READY(0), OUT_RECEIVED(0) and IN_READY(1). -/

namespace Sys2Proof.Machine

/-- POWER_ON (70_reset_and_hazards.md R138): the parameters must be admitted (R141; refused by name otherwise,
20_memory.md R54); then every item at its reset value, the pad regulator, the USB peripheral, both interrupt
sources, and the bus line. -/
def execPowerOn (s : State) : Out :=
  match rejection s.params with
  | some r => .refused (.parameters r)
  | none =>
    .next { resetItems s with
      padEnabled := true, usbEnabled := true, busIntEnabled := true, comIntEnabled := true,
      attached := true }

/-- The bus-reset handler before its `ConfigEP(0, ...)` (40_enumeration.md R75). -/
def busResetRegisters (s : State) : State :=
  { disableEp1 s with
    flagBusReset := false, flagSetup := false, setupRd := 0,
    ctlStage := .idle, zlpOwed := false, paddrValid := false, ep0Stall := false,
    address := 0, configuration := 0, interfaceAlt := 0, devState := .default }

/-- BUS_RESET (40_enumeration.md R75). -/
def execBusReset (s : State) : Out :=
  match configEp (ep0Config s.params) (busResetRegisters s) with
  | (true, s) => .next s
  | (false, s) => .next (raiseHalt .ep0Rejected s)

/-- One row of the dispatch map with its request rule. -/
structure DispatchRow where
  requestType : Byte
  request : Byte
  rule : Rule

/-- Dispatch rows 1 to 26, in order (30_encoding.md R62). -/
def dispatchMap : List DispatchRow :=
  [⟨0x80, 0x00, ruleGetStatusDevice⟩, ⟨0x00, 0x01, ruleClearFeatureDevice⟩,
   ⟨0x00, 0x03, ruleSetFeatureDevice⟩, ⟨0x00, 0x05, ruleSetAddress⟩,
   ⟨0x80, 0x06, ruleGetDescriptorDevice⟩, ⟨0x00, 0x07, ruleSetDescriptor⟩,
   ⟨0x80, 0x08, ruleGetConfiguration⟩, ⟨0x00, 0x09, ruleSetConfigurationDevice⟩] ++
  [⟨0x81, 0x00, ruleGetStatusInterface⟩, ⟨0x01, 0x01, ruleClearFeatureInterface⟩,
   ⟨0x01, 0x03, ruleSetFeatureInterface⟩, ⟨0x81, 0x06, ruleGetDescriptorInterface⟩,
   ⟨0x01, 0x09, ruleSetConfigurationInterface⟩, ⟨0x81, 0x0A, ruleGetInterface⟩,
   ⟨0x01, 0x0B, ruleSetInterface⟩, ⟨0x81, 0x0C, ruleSynchFrameInterface⟩] ++
  [⟨0x82, 0x00, ruleGetStatusEndpoint⟩, ⟨0x02, 0x01, ruleClearFeatureEndpoint⟩,
   ⟨0x02, 0x03, ruleSetFeatureEndpoint⟩, ⟨0x82, 0x0C, ruleSynchFrameEndpoint⟩] ++
  [⟨0xA1, 0x01, ruleGetReport⟩, ⟨0xA1, 0x02, ruleGetIdle⟩, ⟨0xA1, 0x03, ruleGetProtocol⟩,
   ⟨0x21, 0x09, ruleSetReport⟩, ⟨0x21, 0x0A, ruleSetIdle⟩, ⟨0x21, 0x0B, ruleSetProtocol⟩]

/-- `Dispatch(pkt)` (30_encoding.md R62): the first row whose key matches, else row 27. -/
def dispatchRule (p : SetupPacket) : Rule :=
  match dispatchMap.find? (fun r => r.requestType == p.requestType && r.request == p.request) with
  | some r => r.rule
  | none => ruleUnrecognized

/-- SETUP_RECEIVED (41_control_transfer.md R78). -/
def execSetupReceived (s : State) : Out :=
  match readSetup s with
  | some (p, s) => serve (dispatchRule p) p.args s
  | none => .fault .setupFifoEmpty

/-- The STATUS_IN branch of IN_READY(0) (41_control_transfer.md R83): the pending address, if any, is applied
now. -/
def completeStatus (s : State) : State :=
  if s.paddrValid then
    { s with
      address := s.ctlPaddr,
      devState := if s.devState = .default then .addressed else s.devState,
      paddrValid := false, ctlStage := .idle }
  else { s with ctlStage := .idle }

/-- The DATA_IN branch of IN_READY(0) (41_control_transfer.md R83): the next chunk, the owed zero-length packet,
or the wait for the status stage. -/
def continueData (s : State) : Out :=
  if s.ctlOff.toNat < s.ctlLen.toNat then
    let n := min s.params.ep0Size (s.ctlLen.toNat - s.ctlOff.toNat)
    arm0 .nextChunk ((s.ctlBuf.drop s.ctlOff.toNat).take n)
      { s with ctlOff := BitVec.ofNat 16 (s.ctlOff.toNat + n) }
  else if s.zlpOwed then arm0 .owedZlp [] { s with zlpOwed := false }
  else .next { s with ctlStage := .statusOut }

/-- IN_READY(0) (41_control_transfer.md R83). -/
def execInReady0 (s : State) : Out :=
  let s := { s with flagIn0 := false }
  match s.ctlStage with
  | .dataIn => continueData s
  | .statusIn => .next (completeStatus s)
  | .idle => .next s
  | .statusOut => .next s

/-- OUT_RECEIVED(0) (41_control_transfer.md R84). -/
def execOutReceived0 (s : State) : Out :=
  let s := { s with flagOut0 := false, out0Latch := [] }
  match s.ctlStage with
  | .dataIn => .next { flush0 s with zlpOwed := false, ctlStage := .idle }
  | .statusOut => .next { flush0 s with zlpOwed := false, ctlStage := .idle }
  | .statusIn => .next s
  | .idle => .next s

/-- IN_READY(1) (45_report_endpoint.md R115): a no-op unless a bank of the active endpoint is free. -/
def execInReady1 (s : State) : Out :=
  if ep1BankFree s then arm1 (drawReport s).lastReport (drawReport s) else .next s

end Sys2Proof.Machine
end

