-- ==== Sys2Proof/Machine/HostBus.lean ====
section
/-! DEFINITION. The host's bus actions and the peripheral's answer to each (60_exceptions.md R135, R136). The
table applies in every state, a halted engine's included. -/

namespace Sys2Proof.Machine

/-- R135's `ok(a)`: the device answers tokens to `a`. -/
def answersTo (a : UsbAddr) (s : State) : Bool := s.attached && !s.flagBusReset && a == s.address

/-- `RESET`: the host gets nothing. -/
def hostReset (s : State) : State := if s.attached then { s with flagBusReset := true } else s

/-- `SETUP @a b`: a later SETUP overwrites an earlier one. -/
def hostSetup (a : UsbAddr) (bytes : List Byte) (s : State) : State × Answer :=
  if answersTo a s && s.ep0Enabled then
    match bytes with
    | [b0, b1, b2, b3, b4, b5, b6, b7] =>
      ({ s with setupLatch := #v[b0, b1, b2, b3, b4, b5, b6, b7], setupRd := 0, flagSetup := true }, .ack)
    | _ => (s, .noHandshake)
  else (s, .noHandshake)

/-- `IN @a 0`. -/
def hostIn0 (a : UsbAddr) (s : State) : State × Answer :=
  if !(answersTo a s && s.ep0Enabled) then (s, .noHandshake)
  else if s.flagSetup then (s, .nak)
  else if s.ep0Stall then (s, .stall)
  else
    match s.ep0In with
    | some p => ({ s with ep0In := none, flagIn0 := true }, .data p)
    | none => (s, .nak)

/-- `OUT @a 0 d`. -/
def hostOut0 (a : UsbAddr) (d : List Byte) (s : State) : State × Answer :=
  if !(answersTo a s && s.ep0Enabled) || s.params.ep0Size < d.length then (s, .noHandshake)
  else if s.flagSetup then (s, .nak)
  else if s.ep0Stall then (s, .stall)
  else if s.flagOut0 then (s, .nak)
  else ({ s with out0Latch := d, flagOut0 := true }, .ack)

/-- `IN @a 1`. -/
def hostIn1 (a : UsbAddr) (s : State) : State × Answer :=
  if !(answersTo a s && s.ep1Active) then (s, .noHandshake)
  else
    match s.ep1Banks with
    | r :: rest => ({ s with ep1Banks := rest }, .data r.bytes)
    | [] => (s, .nak)

/-- What the peripheral does with an action, and what the host gets; a RESET gets nothing. -/
def busAction : HostAction → State → State × Option Answer
  | .reset, s => (hostReset s, none)
  | .setup a b, s => let r := hostSetup a b s; (r.1, some r.2)
  | .inToken a e, s =>
    let r := if e = 0 then hostIn0 a s else if e = 1 then hostIn1 a s else (s, .noHandshake)
    (r.1, some r.2)
  | .outPacket a e d, s =>
    let r := if e = 0 then hostOut0 a d s else (s, .noHandshake)
    (r.1, some r.2)

/-- One host step: the action, and what the host got recorded. -/
def hostStep (a : HostAction) (s : State) : State :=
  let r := busAction a s
  { r.1 with answers := r.1.answers ++ r.2.toList }

end Sys2Proof.Machine
end

