-- ==== Sys2Proof/Machine/Service.lean ====
section
/-! DEFINITION. Who moves next, and which event the engine services (40_enumeration.md R73); and how an
instruction is placed where the next step takes it. -/

namespace Sys2Proof.Machine

/-- `EngineStep`'s choice (40_enumeration.md R73): the event serviced, in the fixed priority order; none is
"no step". -/
def pendingEvent (s : State) : Option Instr :=
  if s.halted then none
  else if s.flagBusReset then some .busReset
  else if s.flagSetup && s.ep0Enabled then some .setupReceived
  else if s.flagOut0 then some .outReceived0
  else if s.flagIn0 then some .inReady0
  else if s.ctlStage = .idle && ep1BankFree s then some .inReady1
  else none

/-- What the next step is. -/
inductive Turn where
  /-- the engine runs an instruction -/
  | run (i : Instr) (s : State)
  /-- the outside world moved, or nothing was pending -/
  | pass (s : State)
  /-- the engine is stuck for good -/
  | stuck (f : Fault)
  /-- the input is refused by name -/
  | refuse (r : Refusal)
deriving DecidableEq, Repr

/-- An engine turn: the pending event's handler, or no step. -/
def engineTurn (s : State) : Turn :=
  match pendingEvent s with
  | some i => .run i s
  | none => .pass s

/-- An injected event word. A halted engine services no event but POWER_ON (60_exceptions.md R123). -/
def injectedTurn (w : Byte) (s : State) : Turn :=
  match eventOf w with
  | none => .refuse (.unknownEvent w)
  | some i => if s.halted && i != .powerOn then .pass s else .run i s

/-- The next move. POWER_ON is the first step of every run and nothing is taken before it
(70_reset_and_hazards.md R138). Then the inputs move in their order; when none is left, the engine does, and a
halted engine is the stuck fault. -/
def nextTurn (s : State) : Turn :=
  if !s.attached then .run .powerOn s
  else
    match s.inputs with
    | .host a :: rest => .pass (hostStep a { s with inputs := rest })
    | .engine :: rest => engineTurn { s with inputs := rest }
    | .sample d :: rest => .pass { s with inputs := rest, sampler := d }
    | .event w :: rest => injectedTurn w { s with inputs := rest }
    | [] => if s.halted then .stuck (.halted s.faultCause) else engineTurn s

/-- The SETUP latch as the host's SETUP action leaves it. -/
def latchSetup (bytes : List Byte) (s : State) : State :=
  match bytes with
  | [b0, b1, b2, b3, b4, b5, b6, b7] =>
    { s with setupLatch := #v[b0, b1, b2, b3, b4, b5, b6, b7], setupRd := 0, flagSetup := true }
  | _ => s

/-- A powered-up engine, not halted, whose next input is the event word `w`. -/
def placeEvent (w : Byte) (s : State) : State :=
  { s with
    padEnabled := true, usbEnabled := true, busIntEnabled := true, comIntEnabled := true, attached := true,
    halted := false, inputs := .event w :: s.inputs }

/-- An instruction placed where the next step takes it (assumption 7). POWER_ON: the power-on step still to
come. Another event: its word injected. A request: its packet in the SETUP latch and SETUP_RECEIVED injected. -/
def placeInstruction (s : State) (nbits w : Nat) : State :=
  let bytes := tableBytes nbits w
  match bytes with
  | [e] => if e = 0x00 then { s with attached := false } else placeEvent e s
  | _ => placeEvent 0x20 (latchSetup bytes s)

end Sys2Proof.Machine
end

