-- ==== Sys2Proof/Machine/Dispatch.lean ====
section
/-! DEFINITION. The instruction dispatch: one arm per constructor of Instr. -/

namespace Sys2Proof.Machine

def exec (i : Instr) (s : State) : Host.Outcome State Fault Refusal :=
  match i with
  | .getStatusDevice a => Sys2Proof.Machine.execGetStatusDevice a s
  | .clearFeatureDevice a => Sys2Proof.Machine.execClearFeatureDevice a s
  | .setFeatureDevice a => Sys2Proof.Machine.execSetFeatureDevice a s
  | .setAddress a => Sys2Proof.Machine.execSetAddress a s
  | .getDescriptorDevice a => Sys2Proof.Machine.execGetDescriptorDevice a s
  | .setDescriptor a => Sys2Proof.Machine.execSetDescriptor a s
  | .getConfiguration a => Sys2Proof.Machine.execGetConfiguration a s
  | .setConfigurationDevice a => Sys2Proof.Machine.execSetConfigurationDevice a s
  | .getStatusInterface a => Sys2Proof.Machine.execGetStatusInterface a s
  | .clearFeatureInterface a => Sys2Proof.Machine.execClearFeatureInterface a s
  | .setFeatureInterface a => Sys2Proof.Machine.execSetFeatureInterface a s
  | .getDescriptorInterface a => Sys2Proof.Machine.execGetDescriptorInterface a s
  | .setConfigurationInterface a => Sys2Proof.Machine.execSetConfigurationInterface a s
  | .getInterface a => Sys2Proof.Machine.execGetInterface a s
  | .setInterface a => Sys2Proof.Machine.execSetInterface a s
  | .synchFrameInterface a => Sys2Proof.Machine.execSynchFrameInterface a s
  | .getStatusEndpoint a => Sys2Proof.Machine.execGetStatusEndpoint a s
  | .clearFeatureEndpoint a => Sys2Proof.Machine.execClearFeatureEndpoint a s
  | .setFeatureEndpoint a => Sys2Proof.Machine.execSetFeatureEndpoint a s
  | .synchFrameEndpoint a => Sys2Proof.Machine.execSynchFrameEndpoint a s
  | .getReport a => Sys2Proof.Machine.execGetReport a s
  | .getIdle a => Sys2Proof.Machine.execGetIdle a s
  | .getProtocol a => Sys2Proof.Machine.execGetProtocol a s
  | .setReport a => Sys2Proof.Machine.execSetReport a s
  | .setIdle a => Sys2Proof.Machine.execSetIdle a s
  | .setProtocol a => Sys2Proof.Machine.execSetProtocol a s
  | .unrecognized _ _ a => Sys2Proof.Machine.execUnrecognized a s
  | .powerOn => Sys2Proof.Machine.execPowerOn s
  | .busReset => Sys2Proof.Machine.execBusReset s
  | .setupReceived => Sys2Proof.Machine.execSetupReceived s
  | .inReady0 => Sys2Proof.Machine.execInReady0 s
  | .inReady1 => Sys2Proof.Machine.execInReady1 s
  | .outReceived0 => Sys2Proof.Machine.execOutReceived0 s

end Sys2Proof.Machine
end

