-- ==== Sys2Proof/Machine/Step.lean ====
section
/-! DEFINITION. One step of the machine: the move that `nextTurn` names. -/

namespace Sys2Proof.Machine

/-- One step: the engine runs one handler (40_enumeration.md R73, R74), or the outside world makes one move
(60_exceptions.md R135). -/
def step (s : State) : Host.Outcome State Fault Refusal :=
  match nextTurn s with
  | .run i s => exec i s
  | .pass s => .next s
  | .stuck f => .fault f
  | .refuse r => .refused r

/-- `s` with the instruction of an opcode-table word placed where the next step takes it. -/
def State.withFetchWord (s : State) (nbits w : Nat) : State := placeInstruction s nbits w

end Sys2Proof.Machine
end

