-- ==== Sys2Proof/Safety.lean ====
section
/-! DEFINITION. What counts as a legal state and a safe run, in the terms the statements use: the state rules of
10_state.md R36 and what they need to be kept by every step. -/

namespace Sys2Proof.Machine

/-- R36 (1). -/
abbrev PoweredIsQuiet (s : State) : Prop :=
  s.devState = .powered → s.ep0Enabled = false ∧ s.ctlStage = .idle

/-- R36 (2). -/
abbrev DefaultIsUnaddressed (s : State) : Prop :=
  s.devState = .default → s.address = 0 ∧ s.configuration = 0 ∧ s.ep1Active = false

/-- R36 (3). -/
abbrev ActiveIffConfigured (s : State) : Prop :=
  (s.ep1Active = true ↔ s.devState = .configured) ∧ (s.devState = .configured → s.configuration ≠ 0)

/-- R36 (4). -/
abbrev AltSettingIsZero (s : State) : Prop := s.interfaceAlt = 0

/-- R36 (5). -/
abbrev ArmedOnlyInTransfer (s : State) : Prop :=
  s.ep0In ≠ none → s.ctlStage = .dataIn ∨ s.ctlStage = .statusIn

/-- R36 (6). -/
abbrev BanksBounded (s : State) : Prop :=
  s.ep1Banks.length ≤ s.params.ep1Banks ∧ (s.ep1Active = false → s.ep1Banks = [])

/-- The six clauses of R36. -/
abbrev StateRules (s : State) : Prop :=
  PoweredIsQuiet s ∧ DefaultIsUnaddressed s ∧ ActiveIffConfigured s ∧ AltSettingIsZero s ∧
  ArmedOnlyInTransfer s ∧ BanksBounded s

/-- What the flags say of the buffers: a taken packet left its bank free (10_state.md R33), a latched SETUP
has not been read yet, and a disabled endpoint 0 has raised none of its flags (60_exceptions.md R135). -/
abbrev FlagRules (s : State) : Prop :=
  (s.flagIn0 = true → s.ep0In = none) ∧ (s.flagSetup = true → s.setupRd = 0) ∧
  (s.ep0Enabled = false → s.flagSetup = false ∧ s.flagOut0 = false ∧ s.flagIn0 = false)

/-- No event word is waiting to be injected outside its trigger (45_report_endpoint.md R115). -/
abbrev NoInjection (s : State) : Prop := ∀ w, Input.event w ∉ s.inputs

/-- The invariant: while the engine is not halted the state rules and the flag rules hold, and the outside world
injects no event word. -/
abbrev Legal (s : State) : Prop := (s.halted = false → StateRules s ∧ FlagRules s) ∧ NoInjection s

/-- A step that does not stop, or stops because the engine is halted. -/
def SafeOutcome : Host.Outcome State Fault Refusal → Prop
  | .next _ => True
  | .fault (.halted _) => True
  | .fault _ => False
  | .refused _ => False

end Sys2Proof.Machine
end

