-- ==== Sys2Proof/Certificates/Slice0/Obligations.lean ====
section
/-! DEFINITION. The statements, and the vocabulary they are written in: the states the rules give, spelled out
field by field and not through the machine's own operations. A field a statement's record does not name is
unchanged, so each such equation carries its frame. -/

namespace Sys2Proof.Expect
open Sys2Proof.Machine

/-- What the SETUP handler clears before it dispatches (41_control_transfer.md R78). -/
def setupTaken (s : State) : State :=
  { s with
    flagSetup := false, flagIn0 := false, flagOut0 := false, ep0Stall := false, ep0In := none,
    ctlStage := .idle, zlpOwed := false, paddrValid := false }

/-- A refused request (41_control_transfer.md R80). -/
def stalled (s : State) : State := { setupTaken s with ep0Stall := true }

/-- The zero-length status packet armed (41_control_transfer.md R82, and R81 for an empty data stage). -/
def statusArmed (s : State) : State := { setupTaken s with ep0In := some [], ctlStage := .statusIn }

/-- The bytes of a data stage: `min(wLength, response length)`. -/
def dataLength (resp : List Byte) (w : Word) : Nat := min w.toNat resp.length

/-- The first packet of a data stage armed (41_control_transfer.md R81). -/
def dataArmed (resp : List Byte) (w : Word) (s : State) : State :=
  { setupTaken s with
    ctlBuf := resp.take (dataLength resp w),
    ctlLen := BitVec.ofNat 16 (dataLength resp w),
    ctlOff := BitVec.ofNat 16 (min s.params.ep0Size (dataLength resp w)),
    zlpOwed := decide (dataLength resp w % s.params.ep0Size = 0 ∧ dataLength resp w < w.toNat),
    ep0In := some (resp.take (min s.params.ep0Size (dataLength resp w))),
    ctlStage := .dataIn }

/-- The instruction is a SETUP packet with bmRequestType `t` and bRequest `r` (30_encoding.md R58). -/
def HasKey (i : Instr) (t r : Byte) : Prop := (encode i).take 2 = [t, r]

/-- The response `resp` begun for a host that asks for `w` bytes (41_control_transfer.md R81). -/
def replied (resp : List Byte) (w : Word) (s : State) : State :=
  if dataLength resp w = 0 then statusArmed s else dataArmed resp w s

/-- The report of a snapshot, by arithmetic (45_report_endpoint.md R118). -/
def reportOf (d : Snapshot) : Report :=
  { b0 := BitVec.ofNat 8 d.hat.toNat,
    b1 := BitVec.ofNat 8 (d.buttons.toNat % 256),
    b2 := BitVec.ofNat 8 (d.buttons.toNat / 256) }

/-- LAST_REPORT after a draw (45_report_endpoint.md R117). -/
def currentReport (s : State) : Report :=
  match s.sampler with
  | some d => reportOf d
  | none => s.lastReport

/-- `P_CFG_OK(0, control, control, P_EP0_SIZE, 1)` (20_memory.md R41). -/
def ep0Accepted (p : Params) : Prop := ⟨.ep0, .control, .control, p.ep0Size, 1⟩ ∉ p.cfgRejected

/-- `P_CFG_OK(1, IN, interrupt, P_EP1_SIZE, P_EP1_BANKS)` (20_memory.md R41). -/
def ep1Accepted (p : Params) : Prop := ⟨.ep1, .input, .interrupt, p.ep1Size, p.ep1Banks⟩ ∉ p.cfgRejected

/-- What a bus reset leaves, endpoint 0's enable apart (40_enumeration.md R75). -/
def afterBusReset (s : State) : State :=
  { s with
    flagBusReset := false, flagSetup := false, flagIn0 := false, flagOut0 := false, setupRd := 0,
    ctlStage := .idle, zlpOwed := false, paddrValid := false, ep0Stall := false,
    ep1Active := false, ep1Banks := [], ep0In := none,
    address := 0, configuration := 0, interfaceAlt := 0, devState := .default }

/-- The packets of `bytes` sent `size` at a time; `fuel` bounds their number. -/
def chunks (size : Nat) : Nat → List Byte → List (List Byte)
  | 0, _ => []
  | _, [] => []
  | fuel + 1, b :: bytes => (b :: bytes).take size :: chunks size fuel ((b :: bytes).drop size)

/-- The packets the host gets in a data stage of `resp` at wLength `w` (41_control_transfer.md R86 (1)). -/
def dataPackets (size : Nat) (resp : List Byte) (w : Word) : List (List Byte) :=
  chunks size (dataLength resp w) (resp.take (dataLength resp w)) ++
    if dataLength resp w % size = 0 ∧ dataLength resp w < w.toNat then [[]] else []

/-- `n` rounds of an IN token to endpoint 0 at address `a` and an engine turn. -/
def inRounds (a : UsbAddr) : Nat → List Input
  | 0 => []
  | n + 1 => .host (.inToken a 0) :: .engine :: inRounds a n

/-- The bytes of a table at the offsets listed. -/
def HasBytes (table : List Byte) (want : List (Nat × Byte)) : Prop := ∀ w ∈ want, table[w.1]? = some w.2

/-- The little-endian 16-bit field of a table at offset `k` is `n` (20_memory.md R42 (b)). -/
def HasField16 (table : List Byte) (k n : Nat) : Prop :=
  ∃ lo hi : Byte, table[k]? = some lo ∧ table[k + 1]? = some hi ∧ lo.toNat + 256 * hi.toNat = n

/-- A field is a control of usage `u` and `size` bits with logical values 0 to `hi`. -/
def IsControl (u size : Nat) (hi : Int) (c : HidControl) : Prop :=
  c.usage = u ∧ c.globals.size = size ∧ c.globals.logicalMin = 0 ∧ c.globals.logicalMax = hi

/-- The fields of 30_encoding.md R66's report, from bit 0 of byte 0: the hat switch (4 bits, 0 to 7, its flags data,
variable, absolute and null state alone, its angle in degrees from 0 to 315 where a unit is declared), 4 padding
bits, the single-bit buttons 1 to 10, 6 padding bits. Usages carry their page in the upper half: 1 is Generic Desktop,
9 is Button. -/
def DescribesTheReport (fields : List HidField) : Prop :=
  fields.length = 21 ∧
  (∃ c, fields[0]? = some (.control c) ∧ IsControl 0x10039 4 7 c ∧ c.flags = 0x42 ∧
    c.globals.angleOk = true) ∧
  (∀ k, k < 4 → fields[1 + k]? = some .padding) ∧
  (∀ k, k < 10 → ∃ c, fields[5 + k]? = some (.control c) ∧ IsControl (0x90001 + k) 1 1 c) ∧
  (∀ k, k < 6 → fields[15 + k]? = some .padding)

/-- The power-on enables set and the halt cleared: what placing an event word or a request sets besides its word
(assumption 7). -/
def poweredUp (s : State) : State :=
  { s with
    padEnabled := true, usbEnabled := true, busIntEnabled := true, comIntEnabled := true, attached := true,
    halted := false }

/-- Endpoint 0 answers tokens and the engine services the transfer: attached, not halted, no bus reset or SETUP
or OUT pending. -/
def Ready (s : State) : Prop :=
  s.attached = true ∧ s.halted = false ∧ s.flagBusReset = false ∧ s.ep0Enabled = true

/-- The S items of 10_state.md agree. -/
def SameEngine (s t : State) : Prop :=
  t.devState = s.devState ∧ t.address = s.address ∧ t.configuration = s.configuration ∧
  t.interfaceAlt = s.interfaceAlt ∧ t.idleRate = s.idleRate ∧ t.ctlStage = s.ctlStage ∧
  t.ctlLen = s.ctlLen ∧ t.ctlOff = s.ctlOff ∧ t.zlpOwed = s.zlpOwed ∧ t.paddrValid = s.paddrValid ∧
  t.ctlPaddr = s.ctlPaddr ∧ t.ep0Enabled = s.ep0Enabled ∧ t.ep0Stall = s.ep0Stall ∧
  t.ep1Active = s.ep1Active ∧ t.halted = s.halted ∧ t.faultCause = s.faultCause ∧
  t.lastReport = s.lastReport ∧ t.ctlBuf = s.ctlBuf

/-- The device answers a token to `a` (60_exceptions.md R135's ok(a)). -/
def Ok (a : UsbAddr) (s : State) : Prop := s.attached = true ∧ s.flagBusReset = false ∧ a = s.address

/-- The host got `r` and nothing else changed. -/
def heard (r : Answer) (s : State) : State := { s with answers := s.answers ++ [r] }

/-- The engine's choice of event in a state that is not halted (40_enumeration.md R73). -/
def engineStep (s : State) : Host.Outcome State Fault Refusal :=
  if s.flagBusReset = true then exec .busReset s
  else if s.flagSetup = true ∧ s.ep0Enabled = true then exec .setupReceived s
  else if s.flagOut0 = true then exec .outReceived0 s
  else if s.flagIn0 = true then exec .inReady0 s
  else if s.ctlStage = .idle ∧ s.ep1Active = true ∧ s.ep1Banks.length < s.params.ep1Banks then
    exec .inReady1 s
  else .next s

/-- A next state, changed. -/
def mapNext (f : State → State) : Host.Outcome State Fault Refusal → Host.Outcome State Fault Refusal
  | .next s => .next (f s)
  | .fault r => .fault r
  | .refused r => .refused r

end Sys2Proof.Expect

open Sys2Proof Sys2Proof.Machine Sys2Proof.Expect

/-! ## Encodings -/

/-- Decode and encode agree: no bit of an encoding is dropped (30_encoding.md R58, R62, R69). -/
def Obligations.DecodeOfEncodeIsTheInstruction : Prop :=
  ∀ i : Instr, i.wf = true → decode (encode i) = .instr i

/-- Every decoded instruction is well formed and encodes to the bytes it came from: no two byte sequences decode
to one instruction (30_encoding.md R57, R58, R62, R69). -/
def Obligations.EncodeOfDecodeIsTheBytes : Prop :=
  ∀ (bytes : List Byte) (i : Instr), decode bytes = .instr i → i.wf = true ∧ encode i = bytes

/-- Every row of the dispatch map, for every value of the operand bytes: a packet's first two bytes select the
row by exact match, a key of no row selects row 27, and each 16-bit field is its low byte and then its high byte
(30_encoding.md R58, R62). -/
def Obligations.RequestKeysSelectTheirRow : Prop :=
  ∀ b2 b3 b4 b5 b6 b7 : Byte,
    let a : SetupArgs := ⟨b3 ++ b2, b5 ++ b4, b7 ++ b6⟩
    let packet := fun t r : Byte => decode [t, r, b2, b3, b4, b5, b6, b7]
    packet 0x80 0x00 = .instr (.getStatusDevice a) ∧
    packet 0x00 0x01 = .instr (.clearFeatureDevice a) ∧
    packet 0x00 0x03 = .instr (.setFeatureDevice a) ∧
    packet 0x00 0x05 = .instr (.setAddress a) ∧
    packet 0x80 0x06 = .instr (.getDescriptorDevice a) ∧
    packet 0x00 0x07 = .instr (.setDescriptor a) ∧
    packet 0x80 0x08 = .instr (.getConfiguration a) ∧
    packet 0x00 0x09 = .instr (.setConfigurationDevice a) ∧
    packet 0x81 0x00 = .instr (.getStatusInterface a) ∧
    packet 0x01 0x01 = .instr (.clearFeatureInterface a) ∧
    packet 0x01 0x03 = .instr (.setFeatureInterface a) ∧
    packet 0x81 0x06 = .instr (.getDescriptorInterface a) ∧
    packet 0x01 0x09 = .instr (.setConfigurationInterface a) ∧
    packet 0x81 0x0A = .instr (.getInterface a) ∧
    packet 0x01 0x0B = .instr (.setInterface a) ∧
    packet 0x81 0x0C = .instr (.synchFrameInterface a) ∧
    packet 0x82 0x00 = .instr (.getStatusEndpoint a) ∧
    packet 0x02 0x01 = .instr (.clearFeatureEndpoint a) ∧
    packet 0x02 0x03 = .instr (.setFeatureEndpoint a) ∧
    packet 0x82 0x0C = .instr (.synchFrameEndpoint a) ∧
    packet 0xA1 0x01 = .instr (.getReport a) ∧
    packet 0xA1 0x02 = .instr (.getIdle a) ∧
    packet 0xA1 0x03 = .instr (.getProtocol a) ∧
    packet 0x21 0x09 = .instr (.setReport a) ∧
    packet 0x21 0x0A = .instr (.setIdle a) ∧
    packet 0x21 0x0B = .instr (.setProtocol a) ∧
    ∀ t r : Byte, (t, r) ∉
      [(0x80, 0x00), (0x00, 0x01), (0x00, 0x03), (0x00, 0x05), (0x80, 0x06), (0x00, 0x07), (0x80, 0x08), (0x00, 0x09),
       (0x81, 0x00), (0x01, 0x01), (0x01, 0x03), (0x81, 0x06), (0x01, 0x09), (0x81, 0x0A), (0x01, 0x0B), (0x81, 0x0C),
       (0x82, 0x00), (0x02, 0x01), (0x02, 0x03), (0x82, 0x0C), (0xA1, 0x01), (0xA1, 0x02), (0xA1, 0x03), (0x21, 0x09),
       (0x21, 0x0A), (0x21, 0x0B)] →
      packet t r = .instr (.unrecognized t r a)

/-- Words written out from 30_encoding.md R58, R62 and R69, one or more a family (95_test_vectors.md 2.1). -/
def Obligations.SpecWordsDecode : Prop :=
  decode [0x80, 0x06, 0x00, 0x01, 0x00, 0x00, 0x12, 0x00]
    = .instr (.getDescriptorDevice ⟨0x0100, 0x0000, 0x0012⟩) ∧
  decode [0x00, 0x05, 0x05, 0x00, 0x00, 0x00, 0x00, 0x00] = .instr (.setAddress ⟨0x0005, 0x0000, 0x0000⟩) ∧
  decode [0x81, 0x0A, 0x00, 0x00, 0x01, 0x00, 0x01, 0x00] = .instr (.getInterface ⟨0x0000, 0x0001, 0x0001⟩) ∧
  decode [0x82, 0x00, 0x00, 0x00, 0x81, 0x00, 0x02, 0x00]
    = .instr (.getStatusEndpoint ⟨0x0000, 0x0081, 0x0002⟩) ∧
  decode [0x21, 0x0A, 0x00, 0x0A, 0x00, 0x00, 0x00, 0x00] = .instr (.setIdle ⟨0x0A00, 0x0000, 0x0000⟩) ∧
  decode [0xC0, 0x01, 0x00, 0x00, 0x00, 0x00, 0x04, 0x00]
    = .instr (.unrecognized 0xC0 0x01 ⟨0x0000, 0x0000, 0x0004⟩) ∧
  decode [0x00, 0x06, 0x00, 0x01, 0x00, 0x00, 0x12, 0x00]
    = .instr (.unrecognized 0x00 0x06 ⟨0x0100, 0x0000, 0x0012⟩) ∧
  decode [0x31] = .instr .inReady1 ∧ decode [0x41] = .rejected (.unknownEvent 0x41)

/-- The six event words name their events, and every other word is refused by name (30_encoding.md R69). -/
def Obligations.EventWordsNameEventsOrAreRefused : Prop :=
  (decode [0x00] = .instr .powerOn ∧ decode [0x10] = .instr .busReset ∧
   decode [0x20] = .instr .setupReceived ∧ decode [0x30] = .instr .inReady0 ∧
   decode [0x31] = .instr .inReady1 ∧ decode [0x40] = .instr .outReceived0) ∧
  ∀ w : Byte, w ∉ [0x00, 0x10, 0x20, 0x30, 0x31, 0x40] → decode [w] = .rejected (.unknownEvent w)

/-! ## Steps -/

/-- Where the power-on step has run, an injected event word runs its instruction, and one that names none is
refused by name: the model's own way to inject an event (assumption 2). -/
def Obligations.StepRunsTheInjectedEvent : Prop :=
  ∀ (s : State) (w : Byte) (rest : List Input), s.attached = true → s.inputs = .event w :: rest →
    (∀ i, s.halted = false → decode [w] = .instr i → step s = exec i { s with inputs := rest }) ∧
    (decode [w] = .rejected (.unknownEvent w) → step s = .refused (.unknownEvent w))

/-- 40_enumeration.md R73: the engine services the first pending condition in the fixed order, left to itself or
given a turn among the inputs. A halted engine takes no step: with no input left that is the stuck fault. The
inputs and the engine's turns among them are the model's (assumption 2). -/
def Obligations.EngineServicesTheFirstPendingEvent : Prop :=
  ∀ s : State, s.attached = true →
    (s.inputs = [] → s.halted = true → step s = .fault (.halted s.faultCause)) ∧
    (s.inputs = [] → s.halted = false → step s = engineStep s) ∧
    (∀ rest, s.inputs = .engine :: rest → s.halted = true → step s = .next { s with inputs := rest }) ∧
    (∀ rest, s.inputs = .engine :: rest → s.halted = false →
      step s = engineStep { s with inputs := rest })

/-- A step runs the decoded instruction: the SETUP packet in the latch is read, and the step is the meaning of
the request its bytes decode to (41_control_transfer.md R78, 30_encoding.md R62). That the engine moves when no
input is left is the model's choice (assumption 2). -/
def Obligations.StepRunsTheLatchedRequest : Prop :=
  ∀ (s : State) (i : Instr), s.attached = true → s.inputs = [] → s.halted = false →
    s.flagBusReset = false → s.flagSetup = true → s.ep0Enabled = true → s.setupRd = 0 →
    decode s.setupLatch.toList = .instr i → step s = exec i { s with setupRd := 8 }

/-- The SETUP handler dispatches by the decoder's reading of its eight bytes: the dispatch map of rules and the
decoder's map of names agree on every packet (30_encoding.md R62). -/
def Obligations.SetupHandlerRunsTheDecodedRequest : Prop :=
  ∀ s : State, s.setupRd = 0 →
    ∃ i, decode s.setupLatch.toList = .instr i ∧ i.isEvent = false ∧
      exec .setupReceived s = exec i { s with setupRd := 8 }

/-- No SETUP packet makes the engine fault: with admitted parameters SETUP_RECEIVED answers a next state for
every latch, its eight bytes read and its flags cleared (30_encoding.md R63, 41_control_transfer.md R78). -/
def Obligations.EverySetupPacketIsServed : Prop :=
  ∀ s : State, s.setupRd = 0 → Admitted s.params →
    ∃ t, exec .setupReceived s = .next t ∧ t.setupRd = 8 ∧ t.setupLatch = s.setupLatch ∧
      t.flagSetup = false ∧ t.flagIn0 = false ∧ t.flagOut0 = false ∧
      t.flagBusReset = s.flagBusReset ∧ t.ep0Enabled = s.ep0Enabled ∧ t.address = s.address

/-- A word placed by `withFetchWord` is what the very next step runs, and the state it runs on differs from the given
one only in what placing it sets: for POWER_ON the bus line's attachment; for another event the power-on enables
and the halt; for a request those and the SETUP latch, read to its end, with its flag (assumption 7). -/
def Obligations.PlacedWordRunsNext : Prop :=
  ∀ (s : State) (nbits w : Nat) (i : Instr), decodeTableWord nbits w = some i →
    ∃ s', step (s.withFetchWord nbits w) = exec i s' ∧
      (i = .powerOn → s' = { s with attached := false }) ∧
      (i.isEvent = true → i ≠ .powerOn → s' = poweredUp s) ∧
      (i.isEvent = false → ∃ b : Vector Byte 8, decode b.toList = .instr i ∧
        s' = { poweredUp s with setupLatch := b, setupRd := 8, flagSetup := true })

/-! ## Reset -/

/-- POWER_ON with admitted parameters answers the reset values of 70_reset_and_hazards.md R139; before it the
pads, the peripheral and the bus line are off. The bytes of the SETUP latch are unspecified and not stated. That both
interrupt sources are enabled is R138 and 60_exceptions.md R124, held in the model's two enable bits (assumption 9,
deduced); that inputs, sampler and answers stay is the model's own (assumptions 2, 3 and 4). -/
def Obligations.PowerOnSetsTheResetValues : Prop :=
  (State.reset.padEnabled = false ∧ State.reset.usbEnabled = false ∧ State.reset.attached = false) ∧
  ∀ s : State, Admitted s.params →
    ∃ t, exec .powerOn s = .next t ∧
      t.devState = .powered ∧ t.address = 0 ∧ t.configuration = 0 ∧ t.interfaceAlt = 0 ∧ t.idleRate = 0 ∧
      t.ctlStage = .idle ∧ t.ctlLen = 0 ∧ t.ctlOff = 0 ∧ t.zlpOwed = false ∧ t.paddrValid = false ∧
      t.ctlPaddr = 0 ∧ t.ctlBuf = [] ∧ t.ep0Enabled = false ∧ t.ep0Stall = false ∧ t.ep1Active = false ∧
      t.halted = false ∧ t.faultCause = .none ∧ t.lastReport = ⟨0x08, 0x00, 0x00⟩ ∧
      t.padEnabled = true ∧ t.usbEnabled = true ∧ t.attached = true ∧
      t.busIntEnabled = true ∧ t.comIntEnabled = true ∧
      t.flagBusReset = false ∧ t.flagSetup = false ∧ t.flagIn0 = false ∧ t.flagOut0 = false ∧
      t.setupRd = 0 ∧ t.out0Latch = [] ∧ t.ep0In = none ∧ t.ep1Banks = [] ∧
      t.params = s.params ∧ t.inputs = s.inputs ∧ t.answers = s.answers ∧ t.sampler = s.sampler

/-- POWER_ON is the first step of every run: no input is taken before it, and reset is before it
(70_reset_and_hazards.md R138). -/
def Obligations.PowerOnIsTheFirstStep : Prop :=
  State.reset.attached = false ∧ ∀ s : State, s.attached = false → step s = exec .powerOn s

/-- Parameters that are not admitted are refused by name at POWER_ON, the first failed check named
(20_memory.md R54; 93_implementation_defined.md U9). That POWER_ON is where they are refused is the model's choice
(assumption 12). -/
def Obligations.PowerOnRefusesOtherParameters : Prop :=
  ∀ (s : State) (r : Rejection), rejection s.params = some r → exec .powerOn s = .refused (.parameters r)

/-- What admission means: the ranges of 00_scope.md R6 and R7, and 20_memory.md R54's constraints (1) to (6) with
R55, at the byte offsets of 30_encoding.md R65. That byte 23 of the configuration block, the HID descriptor's
bNumDescriptors, is 1 is the model's choice, as R54 and R65 give it no value (assumption 25). The items and fields of
the report descriptor are those the model reads from it (`reportItems`, `reportFields`; assumption 24). -/
def Obligations.AdmittedParametersMeetTheConstraints : Prop :=
  ∀ p : Params, Admitted p →
    (p.ep0Size = 8 ∨ p.ep0Size = 16 ∨ p.ep0Size = 32 ∨ p.ep0Size = 64) ∧
    3 ≤ p.ep1Size ∧ p.ep1Size ≤ 64 ∧ (p.ep1Banks = 1 ∨ p.ep1Banks = 2) ∧
    1 ≤ p.ep1Interval ∧ p.ep1Interval ≤ 255 ∧
    -- the device descriptor: (1), (2), (5)
    p.desc.device.length = 18 ∧
    HasBytes p.desc.device [(0, 18), (1, 0x01), (14, 0), (15, 0), (16, 0), (17, 1)] ∧
    p.desc.device[7]?.map BitVec.toNat = some p.ep0Size ∧
    -- the configuration block: (1), (3), (5)
    34 ≤ p.desc.config.length ∧
    HasBytes p.desc.config
      ([(0, 9), (1, 0x02), (2, 34), (3, 0), (4, 1), (6, 0), (7, 0x80)] ++
       [(9, 9), (10, 0x04), (11, 0), (12, 0), (13, 1), (14, 0xFF), (17, 0)] ++
       [(18, 9), (19, 0x21), (23, 1), (24, 0x22), (27, 7), (28, 0x05), (29, 0x81)]) ∧
    p.desc.config[5]? ≠ some 0 ∧
    (∃ b : Byte, p.desc.config[30]? = some b ∧ b.toNat % 4 = 3) ∧
    HasField16 p.desc.config 31 p.ep1Size ∧
    p.desc.config[33]?.map BitVec.toNat = some p.ep1Interval ∧
    -- the HID descriptor: (1), (4)
    p.desc.hid = (p.desc.config.drop 18).take 9 ∧ p.desc.hid.length = 9 ∧ p.desc.hid[0]? = some 9 ∧
    HasField16 p.desc.hid 7 p.desc.report.length ∧
    -- the report descriptor: (5), (6)
    (∃ items, reportItems p.desc.report = some items ∧
      ∀ i ∈ items, i.kind = 2 → 7 ≤ i.tag → i.tag ≤ 9 → i.value = 0) ∧
    ∃ fields, reportFields p.desc.report = some fields ∧ DescribesTheReport fields

/-! ## The Descriptor Store -/

/-- 20_memory.md R51, R52: each entry's length is read from its own bytes, and every other type has no entry. -/
def Obligations.DescribeReadsLengthFromStoredBytes : Prop :=
  ∀ d : DescTables,
    (∀ n : Byte, d.device[0]? = some n → n.toNat ≤ d.device.length →
      describe d 0x01 = .found (d.device.take n.toNat)) ∧
    (∀ lo hi : Byte, d.config[2]? = some lo → d.config[3]? = some hi →
      lo.toNat + 256 * hi.toNat ≤ d.config.length →
      describe d 0x02 = .found (d.config.take (lo.toNat + 256 * hi.toNat))) ∧
    (∀ n : Byte, d.hid[0]? = some n → n.toNat ≤ d.hid.length →
      describe d 0x21 = .found (d.hid.take n.toNat)) ∧
    describe d 0x22 = .found d.report ∧
    (∀ t : Byte, t ≠ 0x01 → t ≠ 0x02 → t ≠ 0x21 → t ≠ 0x22 → describe d t = .unsupported)

/-! ## Standard requests to the device -/

/-- 42_std_device.md R89, R90, R93. -/
def Obligations.UnsupportedDeviceRequestsStall : Prop :=
  (∀ a : SetupArgs, HasKey (.clearFeatureDevice a) 0x00 0x01 ∧ HasKey (.setFeatureDevice a) 0x00 0x03 ∧
    HasKey (.setDescriptor a) 0x00 0x07) ∧
  ∀ (s : State) (a : SetupArgs),
    exec (.clearFeatureDevice a) s = .next (stalled s) ∧
    exec (.setFeatureDevice a) s = .next (stalled s) ∧
    exec (.setDescriptor a) s = .next (stalled s)

/-- GET_STATUS of the device, the interface and an endpoint answers two zero bytes; an index outside the
topology stalls (42_std_device.md R88, 43_std_interface_endpoint.md R97, R105). -/
def Obligations.GetStatusAnswersTwoZeroBytes : Prop :=
  (∀ a : SetupArgs, HasKey (.getStatusDevice a) 0x80 0x00 ∧ HasKey (.getStatusInterface a) 0x81 0x00 ∧
    HasKey (.getStatusEndpoint a) 0x82 0x00) ∧
  ∀ (s : State) (a : SetupArgs),
    exec (.getStatusDevice a) s = .next (replied [0x00, 0x00] a.length s) ∧
    exec (.getStatusInterface a) s
      = .next (if a.index = 0x0000 then replied [0x00, 0x00] a.length s else stalled s) ∧
    exec (.getStatusEndpoint a) s
      = .next (if a.index = 0x0000 ∨ a.index = 0x0080 ∨ a.index = 0x0081 then
          replied [0x00, 0x00] a.length s else stalled s)

/-- SET_ADDRESS arms the status packet and keeps a non-zero address pending; ADDRESS and DEV_STATE stay
(42_std_device.md R91, 41_control_transfer.md R82). -/
def Obligations.SetAddressOnlyPendsTheAddress : Prop :=
  (∀ a : SetupArgs, HasKey (.setAddress a) 0x00 0x05) ∧
  ∀ (s : State) (a : SetupArgs),
    exec (.setAddress a) s
      = .next (if a.value.toNat % 128 = 0 then statusArmed s
          else { statusArmed s with ctlPaddr := BitVec.ofNat 7 a.value.toNat, paddrValid := true })

/-- GET_DESCRIPTOR(device) answers the entry of type wValue[15:8], or stalls where there is none
(42_std_device.md R92). -/
def Obligations.GetDescriptorAnswersTheStoredEntry : Prop :=
  (∀ a : SetupArgs, HasKey (.getDescriptorDevice a) 0x80 0x06) ∧
  ∀ (s : State) (a : SetupArgs),
    (∀ bytes, describe s.params.desc (BitVec.ofNat 8 (a.value.toNat / 256)) = .found bytes →
      exec (.getDescriptorDevice a) s = .next (replied bytes a.length s)) ∧
    (describe s.params.desc (BitVec.ofNat 8 (a.value.toNat / 256)) = .unsupported →
      exec (.getDescriptorDevice a) s = .next (stalled s))

/-- GET_CONFIGURATION, GET_INTERFACE and GET_IDLE answer the stored byte; the latter two stall on an index other
than 0 (42_std_device.md R94, 43_std_interface_endpoint.md R102, 44_hid_class.md R110). -/
def Obligations.StoredBytesAreAnswered : Prop :=
  (∀ a : SetupArgs, HasKey (.getConfiguration a) 0x80 0x08 ∧ HasKey (.getInterface a) 0x81 0x0A ∧
    HasKey (.getIdle a) 0xA1 0x02) ∧
  ∀ (s : State) (a : SetupArgs),
    exec (.getConfiguration a) s = .next (replied [s.configuration] a.length s) ∧
    exec (.getInterface a) s
      = .next (if a.index = 0x0000 then replied [s.interfaceAlt] a.length s else stalled s) ∧
    exec (.getIdle a) s
      = .next (if a.index = 0x0000 then replied [s.idleRate] a.length s else stalled s)

/-- SET_CONFIGURATION(device): in DEFAULT it stalls; a value of 0 deactivates the report endpoint; another value
configures it, or halts the engine where the peripheral rejects the configuration (42_std_device.md R95,
60_exceptions.md R123). -/
def Obligations.SetConfigurationConfiguresTheReportEndpoint : Prop :=
  (∀ a : SetupArgs, HasKey (.setConfigurationDevice a) 0x00 0x09) ∧
  ∀ (s : State) (a : SetupArgs),
    (s.devState = .default → exec (.setConfigurationDevice a) s = .next (stalled s)) ∧
    (s.devState ≠ .default → a.value.toNat % 256 = 0 →
      exec (.setConfigurationDevice a) s
        = .next { statusArmed s with
            ep1Active := false, ep1Banks := [], configuration := 0, devState := .addressed }) ∧
    (s.devState ≠ .default → a.value.toNat % 256 ≠ 0 → ep1Accepted s.params →
      exec (.setConfigurationDevice a) s
        = .next { statusArmed s with
            ep1Active := true, ep1Banks := [], configuration := BitVec.ofNat 8 a.value.toNat,
            interfaceAlt := 0, devState := .configured }) ∧
    (s.devState ≠ .default → a.value.toNat % 256 ≠ 0 → ¬ ep1Accepted s.params →
      exec (.setConfigurationDevice a) s
        = .next { setupTaken s with
            ep1Active := false, ep1Banks := [], halted := true, faultCause := .ep1Rejected })

/-! ## Standard requests to the interface and to an endpoint -/

/-- 43_std_interface_endpoint.md R98, R99, R104, R106, R107, R108. -/
def Obligations.UnsupportedInterfaceAndEndpointRequestsStall : Prop :=
  (∀ a : SetupArgs, HasKey (.clearFeatureInterface a) 0x01 0x01 ∧ HasKey (.setFeatureInterface a) 0x01 0x03 ∧
    HasKey (.synchFrameInterface a) 0x81 0x0C ∧ HasKey (.clearFeatureEndpoint a) 0x02 0x01 ∧
    HasKey (.setFeatureEndpoint a) 0x02 0x03 ∧ HasKey (.synchFrameEndpoint a) 0x82 0x0C) ∧
  ∀ (s : State) (a : SetupArgs),
    exec (.clearFeatureInterface a) s = .next (stalled s) ∧
    exec (.setFeatureInterface a) s = .next (stalled s) ∧
    exec (.synchFrameInterface a) s = .next (stalled s) ∧
    exec (.clearFeatureEndpoint a) s = .next (stalled s) ∧
    exec (.setFeatureEndpoint a) s = .next (stalled s) ∧
    exec (.synchFrameEndpoint a) s = .next (stalled s)

/-- GET_DESCRIPTOR(interface) is refused or served as the parameter says (43_std_interface_endpoint.md R100). -/
def Obligations.InterfaceDescriptorFollowsTheParameter : Prop :=
  (∀ a : SetupArgs, HasKey (.getDescriptorInterface a) 0x81 0x06) ∧
  ∀ (s : State) (a : SetupArgs),
    (s.params.ifaceGetDescriptor = .stall → exec (.getDescriptorInterface a) s = .next (stalled s)) ∧
    (s.params.ifaceGetDescriptor = .serve → a.index ≠ 0x0000 →
      exec (.getDescriptorInterface a) s = .next (stalled s)) ∧
    (∀ bytes, s.params.ifaceGetDescriptor = .serve → a.index = 0x0000 →
      describe s.params.desc (BitVec.ofNat 8 (a.value.toNat / 256)) = .found bytes →
      exec (.getDescriptorInterface a) s = .next (replied bytes a.length s)) ∧
    (s.params.ifaceGetDescriptor = .serve → a.index = 0x0000 →
      describe s.params.desc (BitVec.ofNat 8 (a.value.toNat / 256)) = .unsupported →
      exec (.getDescriptorInterface a) s = .next (stalled s))

/-- SET_INTERFACE and SET_CONFIGURATION(interface) accept only index 0 and value 0 (43_std_interface_endpoint.md
R101, R103). -/
def Obligations.InterfaceSettingsAcceptOnlyZero : Prop :=
  (∀ a : SetupArgs, HasKey (.setConfigurationInterface a) 0x01 0x09 ∧ HasKey (.setInterface a) 0x01 0x0B) ∧
  ∀ (s : State) (a : SetupArgs),
    exec (.setConfigurationInterface a) s
      = .next (if a.index = 0x0000 ∧ a.value = 0x0000 then statusArmed s else stalled s) ∧
    exec (.setInterface a) s
      = .next (if a.index = 0x0000 ∧ a.value = 0x0000 then { statusArmed s with interfaceAlt := 0 }
          else stalled s)

/-! ## HID class requests and unrecognized requests -/

/-- 44_hid_class.md R111, R112, R114; 41_control_transfer.md R85. -/
def Obligations.UnsupportedClassAndUnrecognizedRequestsStall : Prop :=
  (∀ a : SetupArgs, HasKey (.getProtocol a) 0xA1 0x03 ∧ HasKey (.setReport a) 0x21 0x09 ∧
    HasKey (.setProtocol a) 0x21 0x0B ∧
    (∀ t r, HasKey (.unrecognized t r a) t r)) ∧
  ∀ (s : State) (a : SetupArgs) (t r : Byte),
    exec (.getProtocol a) s = .next (stalled s) ∧
    exec (.setReport a) s = .next (stalled s) ∧
    exec (.setProtocol a) s = .next (stalled s) ∧
    exec (.unrecognized t r a) s = .next (stalled s)

/-- GET_REPORT draws, updates LAST_REPORT whatever wLength is, and answers it (44_hid_class.md R109,
45_report_endpoint.md R117). That the draw is made at wLength 0 too is the spec's own inference (R109). -/
def Obligations.GetReportAnswersTheCurrentReport : Prop :=
  (∀ a : SetupArgs, HasKey (.getReport a) 0xA1 0x01) ∧
  ∀ (s : State) (a : SetupArgs),
    exec (.getReport a) s
      = .next (if a.index = 0x0000 then
          replied [(currentReport s).b0, (currentReport s).b1, (currentReport s).b2] a.length
            { s with lastReport := currentReport s }
          else stalled s)

/-- SET_IDLE stores wValue[15:8] and changes nothing else but the control transfer (44_hid_class.md R113). -/
def Obligations.SetIdleStoresTheHighByte : Prop :=
  (∀ a : SetupArgs, HasKey (.setIdle a) 0x21 0x0A) ∧
  ∀ (s : State) (a : SetupArgs),
    exec (.setIdle a) s
      = .next (if a.index = 0x0000 then
          { statusArmed s with idleRate := BitVec.ofNat 8 (a.value.toNat / 256) } else stalled s)

/-! ## Events -/

/-- BUS_RESET in every state: the transfer aborted, the STALL request and the pending address dropped, the report
endpoint off, DEFAULT at address 0, endpoint 0 enabled; or the engine halted where the peripheral rejects the
endpoint-0 configuration. IDLE_RATE and LAST_REPORT stay; a second bus reset changes nothing
(40_enumeration.md R75). -/
def Obligations.BusResetReturnsToDefault : Prop :=
  encode .busReset = [0x10] ∧
  ∀ s : State,
    (ep0Accepted s.params → exec .busReset s = .next { afterBusReset s with ep0Enabled := true }) ∧
    (¬ ep0Accepted s.params →
      exec .busReset s
        = .next { afterBusReset s with ep0Enabled := false, halted := true, faultCause := .ep0Rejected }) ∧
    (∀ t, exec .busReset s = .next t → exec .busReset t = .next t)

/-- IN_READY(0) by control stage (a packet is armed only into a free bank, as the taken one is): the next chunk,
the owed zero-length packet, the wait for the status stage, or the status completion that applies a pending
address (41_control_transfer.md R83). -/
def Obligations.InReadyZeroContinuesTheTransfer : Prop :=
  encode .inReady0 = [0x30] ∧
  ∀ s : State,
    (s.ep0In = none → s.ctlStage = .dataIn → s.ctlOff.toNat < s.ctlLen.toNat →
      exec .inReady0 s
        = .next { s with
            flagIn0 := false,
            ep0In := some ((s.ctlBuf.drop s.ctlOff.toNat).take
              (min s.params.ep0Size (s.ctlLen.toNat - s.ctlOff.toNat))),
            ctlOff := BitVec.ofNat 16
              (s.ctlOff.toNat + min s.params.ep0Size (s.ctlLen.toNat - s.ctlOff.toNat)) }) ∧
    (s.ep0In = none → s.ctlStage = .dataIn → ¬ s.ctlOff.toNat < s.ctlLen.toNat → s.zlpOwed = true →
      exec .inReady0 s = .next { s with flagIn0 := false, ep0In := some [], zlpOwed := false }) ∧
    (s.ctlStage = .dataIn → ¬ s.ctlOff.toNat < s.ctlLen.toNat → s.zlpOwed = false →
      exec .inReady0 s = .next { s with flagIn0 := false, ctlStage := .statusOut }) ∧
    (s.ctlStage = .statusIn → s.paddrValid = true →
      exec .inReady0 s
        = .next { s with
            flagIn0 := false, address := s.ctlPaddr,
            devState := if s.devState = .default then .addressed else s.devState,
            paddrValid := false, ctlStage := .idle }) ∧
    (s.ctlStage = .statusIn → s.paddrValid = false →
      exec .inReady0 s = .next { s with flagIn0 := false, ctlStage := .idle }) ∧
    (s.ctlStage = .idle ∨ s.ctlStage = .statusOut → exec .inReady0 s = .next { s with flagIn0 := false })

/-- OUT_RECEIVED(0): a read's transfer ends, its untaken packet dropped; elsewhere the packet is ignored
(41_control_transfer.md R84). -/
def Obligations.OutReceivedEndsARead : Prop :=
  encode .outReceived0 = [0x40] ∧
  ∀ s : State,
    (s.ctlStage = .dataIn ∨ s.ctlStage = .statusOut →
      exec .outReceived0 s
        = .next { s with
            flagOut0 := false, out0Latch := [], ep0In := none, zlpOwed := false, ctlStage := .idle }) ∧
    (s.ctlStage = .statusIn ∨ s.ctlStage = .idle →
      exec .outReceived0 s = .next { s with flagOut0 := false, out0Latch := [] })

/-- IN_READY(1): with a free bank one report is armed, the packing of the sample drawn or else the last report;
without one the event is a no-op (45_report_endpoint.md R115, R117). -/
def Obligations.InReadyOneArmsOneReport : Prop :=
  encode .inReady1 = [0x31] ∧
  ∀ s : State,
    (s.ep1Active = true ∧ s.ep1Banks.length < s.params.ep1Banks →
      exec .inReady1 s
        = .next { s with
            lastReport := currentReport s, ep1Banks := s.ep1Banks ++ [currentReport s] }) ∧
    (¬ (s.ep1Active = true ∧ s.ep1Banks.length < s.params.ep1Banks) → exec .inReady1 s = .next s)

/-- The report armed for a sample, bit by bit: the hat nibble is the sample's, button bit k is button k, the
padding is 0 (45_report_endpoint.md R118, R120; 30_encoding.md R66). -/
def Obligations.ReportCarriesTheSampleBitForBit : Prop :=
  ∀ (s t : State) (d : Snapshot), s.sampler = some d → s.ep1Active = true →
    s.ep1Banks.length < s.params.ep1Banks → exec .inReady1 s = .next t →
    ∃ r, t.ep1Banks = s.ep1Banks ++ [r] ∧ t.lastReport = r ∧
      (∀ k, k < 4 → r.b0.getLsbD k = d.hat.getLsbD k) ∧
      (∀ k, 4 ≤ k → r.b0.getLsbD k = false) ∧
      (∀ k, k < 8 → r.b1.getLsbD k = d.buttons.getLsbD k) ∧
      (∀ k, k < 2 → r.b2.getLsbD k = d.buttons.getLsbD (8 + k)) ∧
      (∀ k, 2 ≤ k → r.b2.getLsbD k = false)

/-! ## The host's side of the bus -/

/-- A host action at the head of the inputs is one host step, in every state after POWER_ON; it never stops the
machine (60_exceptions.md R137, 00_scope.md R16; the inputs' order is the model's, assumption 2). -/
def Obligations.HostMovesAreTakenInEveryState : Prop :=
  ∀ (s : State) (a : HostAction) (rest : List Input), s.attached = true → s.inputs = .host a :: rest →
    step s = .next (hostStep a { s with inputs := rest })

/-- A sample input at the head of the inputs is one step: from then on `Sample()` answers it, and nothing else
changes (45_report_endpoint.md R116; that the sampler holds its answer until the next sample input is the model's,
assumption 3). -/
def Obligations.SampleInputSetsWhatSampleAnswers : Prop :=
  ∀ (s : State) (d : Option Snapshot) (rest : List Input), s.attached = true → s.inputs = .sample d :: rest →
    step s = .next { s with inputs := rest, sampler := d } ∧
    ∀ t, step s = .next t → currentReport t = (match d with | some d => reportOf d | none => s.lastReport)

/-- The table of 60_exceptions.md R135, row by row, what the host gets recorded. -/
def Obligations.HostBusTable : Prop :=
  ∀ (s : State) (a : UsbAddr),
    hostStep .reset s = (if s.attached = true then { s with flagBusReset := true } else s) ∧
    (∀ b : List Byte, ¬ Ok a s ∨ s.ep0Enabled = false ∨ b.length ≠ 8 →
      hostStep (.setup a b) s = heard .noHandshake s) ∧
    (∀ b : Vector Byte 8, Ok a s → s.ep0Enabled = true →
      hostStep (.setup a b.toList) s
        = heard .ack { s with setupLatch := b, setupRd := 0, flagSetup := true }) ∧
    (¬ Ok a s ∨ s.ep0Enabled = false → hostStep (.inToken a 0) s = heard .noHandshake s) ∧
    (Ok a s → s.ep0Enabled = true → s.flagSetup = true → hostStep (.inToken a 0) s = heard .nak s) ∧
    (Ok a s → s.ep0Enabled = true → s.flagSetup = false → s.ep0Stall = true →
      hostStep (.inToken a 0) s = heard .stall s) ∧
    (∀ p, Ok a s → s.ep0Enabled = true → s.flagSetup = false → s.ep0Stall = false → s.ep0In = some p →
      hostStep (.inToken a 0) s = heard (.data p) { s with ep0In := none, flagIn0 := true }) ∧
    (Ok a s → s.ep0Enabled = true → s.flagSetup = false → s.ep0Stall = false → s.ep0In = none →
      hostStep (.inToken a 0) s = heard .nak s) ∧
    (∀ d : List Byte,
      (¬ Ok a s ∨ s.ep0Enabled = false ∨ s.params.ep0Size < d.length →
        hostStep (.outPacket a 0 d) s = heard .noHandshake s) ∧
      (Ok a s → s.ep0Enabled = true → d.length ≤ s.params.ep0Size →
        hostStep (.outPacket a 0 d) s
          = if s.flagSetup = true then heard .nak s
            else if s.ep0Stall = true then heard .stall s
            else if s.flagOut0 = true then heard .nak s
            else heard .ack { s with out0Latch := d, flagOut0 := true })) ∧
    (¬ Ok a s ∨ s.ep1Active = false → hostStep (.inToken a 1) s = heard .noHandshake s) ∧
    (∀ r rest, Ok a s → s.ep1Active = true → s.ep1Banks = r :: rest →
      hostStep (.inToken a 1) s = heard (.data [r.b0, r.b1, r.b2]) { s with ep1Banks := rest }) ∧
    (Ok a s → s.ep1Active = true → s.ep1Banks = [] → hostStep (.inToken a 1) s = heard .nak s) ∧
    (∀ e, e ≠ 0 → e ≠ 1 → hostStep (.inToken a e) s = heard .noHandshake s) ∧
    (∀ e d, e ≠ 0 → hostStep (.outPacket a e d) s = heard .noHandshake s)

/-- Only tokens to ADDRESS are answered, and while the report endpoint is active an IN token to it gets a report
or NAK, never STALL (60_exceptions.md R136, R122; 45_report_endpoint.md R120). -/
def Obligations.TokensAreAnsweredOnlyAtTheAddress : Prop :=
  ∀ (s : State) (a : UsbAddr),
    (a ≠ s.address → ∀ b e d,
      hostStep (.setup a b) s = heard .noHandshake s ∧ hostStep (.inToken a e) s = heard .noHandshake s ∧
      hostStep (.outPacket a e d) s = heard .noHandshake s) ∧
    (∀ r, (hostStep (.inToken a 1) s).answers = s.answers ++ [r] →
      r ≠ .stall ∧ (Ok a s → s.ep1Active = true → r = .nak ∨ ∃ b, r = .data b ∧ b.length = 3))

/-- In POWERED endpoint 0 is not enabled: no token is answered or changes anything, and the only event that can
be pending is a bus reset, so a host must drive one before it can enumerate the device (40_enumeration.md R72). -/
def Obligations.PoweredDeviceAwaitsABusReset : Prop :=
  ∀ s : State, Legal s → s.halted = false → s.devState = .powered →
    s.ep0Enabled = false ∧ (∀ i, pendingEvent s = some i → i = .busReset) ∧
    ∀ (a : UsbAddr) (b d : List Byte) (e : BitVec 4),
      hostStep (.setup a b) s = heard .noHandshake s ∧ hostStep (.inToken a e) s = heard .noHandshake s ∧
      hostStep (.outPacket a e d) s = heard .noHandshake s

/-! ## Rules of the whole machine -/

/-- 10_state.md R19's "written by" column for the device registers, the report buffer and the fault record:
whatever instruction runs, only the handlers named (and SETUP_RECEIVED for a request's own writes, and POWER_ON)
change them. -/
def Obligations.OnlyNamedHandlersWriteARegister : Prop :=
  ∀ (i : Instr) (s t : State), exec i s = .next t → i ≠ .powerOn → i ≠ .setupReceived →
    (t.devState ≠ s.devState →
      i = .busReset ∨ i = .inReady0 ∨ ∃ a, i = .setConfigurationDevice a) ∧
    (t.address ≠ s.address → i = .busReset ∨ i = .inReady0) ∧
    (t.configuration ≠ s.configuration → i = .busReset ∨ ∃ a, i = .setConfigurationDevice a) ∧
    (t.interfaceAlt ≠ s.interfaceAlt →
      i = .busReset ∨ (∃ a, i = .setConfigurationDevice a) ∨ ∃ a, i = .setInterface a) ∧
    (t.idleRate ≠ s.idleRate → ∃ a, i = .setIdle a) ∧
    (t.ctlPaddr ≠ s.ctlPaddr → ∃ a, i = .setAddress a) ∧
    (t.ep0Enabled ≠ s.ep0Enabled → i = .busReset) ∧
    (t.ep1Active ≠ s.ep1Active → i = .busReset ∨ ∃ a, i = .setConfigurationDevice a) ∧
    (t.halted ≠ s.halted ∨ t.faultCause ≠ s.faultCause →
      i = .busReset ∨ ∃ a, i = .setConfigurationDevice a) ∧
    (t.lastReport ≠ s.lastReport → i = .inReady1 ∨ ∃ a, i = .getReport a)

/-- The frame of the control-transfer bookkeeping: IN_READY(1) leaves all of it; IN_READY(0) and OUT_RECEIVED(0)
leave the response; requests but SET_CONFIGURATION(device) leave the report banks; and the stage changes only at
POWER_ON, BUS_RESET, SETUP_RECEIVED or its request, IN_READY(0) and OUT_RECEIVED(0) (10_state.md R19, R26). -/
def Obligations.ReportEventLeavesTheControlTransfer : Prop :=
  ∀ (i : Instr) (s t : State), exec i s = .next t →
    (i = .inReady1 →
      t.ctlStage = s.ctlStage ∧ t.ctlLen = s.ctlLen ∧ t.ctlOff = s.ctlOff ∧ t.ctlBuf = s.ctlBuf ∧
      t.zlpOwed = s.zlpOwed ∧ t.paddrValid = s.paddrValid ∧ t.ctlPaddr = s.ctlPaddr ∧ t.ep0In = s.ep0In ∧
      t.ep0Stall = s.ep0Stall) ∧
    (i = .inReady0 ∨ i = .outReceived0 →
      t.ctlBuf = s.ctlBuf ∧ t.ctlLen = s.ctlLen ∧ t.ep0Stall = s.ep0Stall ∧ t.ep1Banks = s.ep1Banks) ∧
    (i.isEvent = false → (∀ a, i ≠ .setConfigurationDevice a) → t.ep1Banks = s.ep1Banks) ∧
    (t.ctlStage ≠ s.ctlStage →
      i = .powerOn ∨ i = .busReset ∨ i = .setupReceived ∨ i = .inReady0 ∨ i = .outReceived0 ∨
        i.isEvent = false)

/-- No handler writes the descriptor tables or any parameter, the sampler, the outside world's inputs or what
the host has got; none but POWER_ON writes the SETUP latch; and once the bus line is attached, none detaches it
(20_memory.md R50, R53; 45_report_endpoint.md R116; 70_reset_and_hazards.md R138). -/
def Obligations.HandlersLeaveTheWorldAlone : Prop :=
  ∀ (i : Instr) (s t : State), exec i s = .next t →
    t.params = s.params ∧ t.sampler = s.sampler ∧ t.inputs = s.inputs ∧ t.answers = s.answers ∧
    (i ≠ .powerOn → t.setupLatch = s.setupLatch) ∧
    (s.attached = true → t.attached = true) ∧
    (i ≠ .powerOn → t.padEnabled = s.padEnabled ∧ t.usbEnabled = s.usbEnabled ∧ t.attached = s.attached ∧
      t.busIntEnabled = s.busIntEnabled ∧ t.comIntEnabled = s.comIntEnabled) ∧
    (t.flagBusReset ≠ s.flagBusReset → i = .powerOn ∨ i = .busReset)

/-- The deferred address: whatever instruction runs, ADDRESS changes only at POWER_ON or bus reset, or in the
IN_READY(0) step that completes a SET_ADDRESS's status stage, to the pending address (10_state.md R21,
70_reset_and_hazards.md R142). -/
def Obligations.AddressChangesOnlyAtStatusCompletion : Prop :=
  ∀ (i : Instr) (s t : State), exec i s = .next t → t.address ≠ s.address →
    i = .powerOn ∨ i = .busReset ∨
    (i = .inReady0 ∧ s.ctlStage = .statusIn ∧ s.paddrValid = true ∧ t.address = s.ctlPaddr)

/-- A SET_ADDRESS run through: the status packet is taken at the old address, then the new one holds
(41_control_transfer.md R83, 60_exceptions.md R136, 95_test_vectors.md E3). The list of moves is assumption 2. -/
def Obligations.SetAddressTakesEffectAfterItsStatusPacket : Prop :=
  ∀ (s t : State) (a : SetupArgs), Ready s → a.value.toNat % 128 ≠ 0 → exec (.setAddress a) s = .next t →
    t.address = s.address ∧ t.devState = s.devState ∧
    ∃ u, Sys2Proof.core.run 2 { t with inputs := inRounds s.address 1 } = .next u ∧
      u.address = BitVec.ofNat 7 a.value.toNat ∧ u.ctlStage = .idle ∧ u.paddrValid = false ∧
      u.devState = (if s.devState = .default then .addressed else s.devState) ∧
      u.answers = s.answers ++ [.data []]

/-- SET_IDLE and then GET_IDLE answers the rate stored (95_test_vectors.md E6). -/
def Obligations.GetIdleAnswersTheRateSet : Prop :=
  ∀ (s t : State) (a b : SetupArgs), a.index = 0x0000 → b.index = 0x0000 → exec (.setIdle a) s = .next t →
    exec (.getIdle b) t = .next (replied [BitVec.ofNat 8 (a.value.toNat / 256)] b.length t)

/-- A SETUP aborts whatever transfer is in flight: a request's outcome is that of the same request with the
transfer already aborted (41_control_transfer.md R78; 92_eei_decisions.md D8). -/
def Obligations.SetupAbortsTheTransferInFlight : Prop :=
  ∀ (i : Instr) (s : State), i.isEvent = false → exec i s = exec i (setupTaken s)

/-- The idle rate has no effect: whatever instruction runs, but GET_IDLE, which reads it, and POWER_ON and SET_IDLE,
which write it (SETUP_RECEIVED runs those requests too), the outcome is the same with another rate in it
(10_state.md R24, 44_hid_class.md R113; 90_conflicts.md C5). -/
def Obligations.IdleRateHasNoEffect : Prop :=
  ∀ (i : Instr) (s : State) (r : Byte),
    i ≠ .powerOn → i ≠ .setupReceived → (∀ a, i ≠ .getIdle a) → (∀ a, i ≠ .setIdle a) →
    exec i { s with idleRate := r } = mapNext (fun t => { t with idleRate := r }) (exec i s)

/-- The STALL request on endpoint 0 ends only when a SETUP is serviced, at a bus reset, or at POWER_ON; no host
action and no other handler clears it (41_control_transfer.md R80, 60_exceptions.md R122). -/
def Obligations.StallEndsOnlyAtSetupOrBusReset : Prop :=
  ∀ s t : State, step s = .next t → s.ep0Stall = true → t.ep0Stall = false →
    ∃ i s', nextTurn s = .run i s' ∧ (i = .setupReceived ∨ i = .busReset ∨ i = .powerOn)

/-- A halted engine takes no step: whatever the outside world does short of another power-on, no engine register
changes; and with nothing left to come it is the stuck fault (60_exceptions.md R123, 70_reset_and_hazards.md
R148). The list of inputs and the injected words are assumption 2. -/
def Obligations.HaltIsPermanent : Prop :=
  ∀ s : State, s.attached = true → s.halted = true →
    (∀ t, step s = .next t → (∀ rest, s.inputs ≠ .event 0x00 :: rest) → SameEngine s t) ∧
    (s.inputs = [] → step s = .fault (.halted s.faultCause))

/-- The registers' reserved bits read 0 and each value fits its register; FAULT's cause 3 is never read
(10_state.md R19; 93_implementation_defined.md U5, U21). -/
def Obligations.ReservedBitsReadZero : Prop :=
  ∀ s : State,
    (∀ r : Reg, readReg r s < 2 ^ r.width) ∧
    readReg .address s < 128 ∧ readReg .ctlPaddr s < 128 ∧ readReg .ctlFlags s < 4 ∧
    readReg .epStatus s < 8 ∧ readReg .fault s < 6

/-- The register map of 10_state.md R19: the numbers 0x00 to 0x0E and the widths, each field at its bits, and the
reset values, in the reset state and after POWER_ON. -/
def Obligations.RegistersStandAsTheMapSays : Prop :=
  [Reg.devState, .address, .configuration, .interfaceAlt, .idleRate, .ctlStage, .ctlLen, .ctlOff, .ctlFlags,
    .ctlPaddr, .epStatus, .fault, .lastReport0, .lastReport1, .lastReport2].map (fun r => (r.number, r.width))
    = [(0x00, 2), (0x01, 8), (0x02, 8), (0x03, 8), (0x04, 8), (0x05, 2), (0x06, 16), (0x07, 16), (0x08, 8),
       (0x09, 8), (0x0A, 8), (0x0B, 8), (0x0C, 8), (0x0D, 8), (0x0E, 8)] ∧
  (∀ s : State,
    (readReg .devState s = 0 ↔ s.devState = .powered) ∧ (readReg .devState s = 1 ↔ s.devState = .default) ∧
    (readReg .devState s = 2 ↔ s.devState = .addressed) ∧ (readReg .devState s = 3 ↔ s.devState = .configured) ∧
    readReg .address s = s.address.toNat ∧ readReg .configuration s = s.configuration.toNat ∧
    readReg .interfaceAlt s = s.interfaceAlt.toNat ∧ readReg .idleRate s = s.idleRate.toNat ∧
    (readReg .ctlStage s = 0 ↔ s.ctlStage = .idle) ∧ (readReg .ctlStage s = 1 ↔ s.ctlStage = .dataIn) ∧
    (readReg .ctlStage s = 2 ↔ s.ctlStage = .statusOut) ∧ (readReg .ctlStage s = 3 ↔ s.ctlStage = .statusIn) ∧
    readReg .ctlLen s = s.ctlLen.toNat ∧ readReg .ctlOff s = s.ctlOff.toNat ∧
    (readReg .ctlFlags s).testBit 0 = s.zlpOwed ∧ (readReg .ctlFlags s).testBit 1 = s.paddrValid ∧
    readReg .ctlPaddr s = s.ctlPaddr.toNat ∧
    (readReg .epStatus s).testBit 0 = s.ep0Enabled ∧ (readReg .epStatus s).testBit 1 = s.ep0Stall ∧
    (readReg .epStatus s).testBit 2 = s.ep1Active ∧
    (readReg .fault s).testBit 0 = s.halted ∧
    (readReg .fault s / 2 % 4 = 0 ↔ s.faultCause = .none) ∧
    (readReg .fault s / 2 % 4 = 1 ↔ s.faultCause = .ep0Rejected) ∧
    (readReg .fault s / 2 % 4 = 2 ↔ s.faultCause = .ep1Rejected) ∧
    readReg .lastReport0 s = s.lastReport.b0.toNat ∧ readReg .lastReport1 s = s.lastReport.b1.toNat ∧
    readReg .lastReport2 s = s.lastReport.b2.toNat) ∧
  ∀ (s t : State) (r : Reg), exec .powerOn s = .next t →
    readReg r t = (if r = .lastReport0 then 0x08 else 0) ∧ readReg r State.reset = readReg r t

/-! ## Invariants and whole transfers -/

/-- The state before POWER_ON meets the invariant, and POWER_ON establishes it from any state without a pending
injection (70_reset_and_hazards.md R138, R139). The invariant's state rules are 10_state.md R36, which the spec marks
as its own inference; its flag rules are the model's, and its no-injection clause is assumption 2. -/
def Obligations.PowerOnEstablishesLegal : Prop :=
  Legal State.reset ∧ ∀ s t : State, NoInjection s → exec .powerOn s = .next t → Legal t

/-- Every step keeps the invariant: 10_state.md R36 (1) to (6), which the spec marks as its own inference, and the
model's flag rules, while the engine is not halted; and no injected event word waits (assumption 2). -/
def Obligations.StepKeepsLegal : Prop :=
  ∀ s t : State, Legal s → step s = .next t → Legal t

/-- Every state a run reaches from reset, whatever the parameters and whatever host actions, engine turns and
samples come in whatever order, meets the six state rules while the engine is not halted (10_state.md R36, which
the spec marks as its own inference from the handler rules; the order of the moves is assumption 2). -/
def Obligations.ReachableStatesMeetTheStateRules : Prop :=
  ∀ (p : Params) (moves : List Input) (n : Nat) (t : State), (∀ w, Input.event w ∉ moves) →
    Sys2Proof.core.run n { State.reset with params := p, inputs := moves } = .next t →
    t.halted = false → StateRules t

/-- From a legal state with admitted parameters no step stops the machine but the halted engine's stuck fault:
every FifoRead, Arm and MemRead meets its precondition, and nothing is refused (20_memory.md R39, which the spec
marks as its own inference; 60_exceptions.md R121). -/
def Obligations.LegalStepsStopOnlyWhenHalted : Prop :=
  ∀ s : State, Legal s → Admitted s.params → SafeOutcome (step s)

/-- The engine comes to rest: from a legal state, two turns and one for each bank of endpoint 1 leave no event
pending (40_enumeration.md R73, 30_encoding.md R70; the turns are assumption 2). -/
def Obligations.EngineComesToRest : Prop :=
  ∀ s : State, Legal s → Admitted s.params → s.attached = true →
    ∃ t, Sys2Proof.core.run (2 + s.params.ep1Banks)
        { s with inputs := List.replicate (2 + s.params.ep1Banks) .engine } = .next t ∧
      pendingEvent t = none

/-- The data stage: for a response begun at wLength w, a host that sends one IN token a packet gets exactly
`resp[0 : min(w, |resp|)]` in packets of P_EP0_SIZE bytes except the last, and one zero-length packet exactly
when the length is a multiple of P_EP0_SIZE and less than w; the engine then waits for the status stage
(41_control_transfer.md R86 (1), which the spec marks as its own inference; the list of moves is assumption 2). -/
def Obligations.DataStageDeliversTheResponse : Prop :=
  ∀ (s : State) (resp : List Byte) (w : Word), Ready s → 0 < s.params.ep0Size → 0 < dataLength resp w →
    ∃ t, Sys2Proof.core.run (2 * (dataPackets s.params.ep0Size resp w).length)
        { dataArmed resp w s with inputs := inRounds s.address (dataPackets s.params.ep0Size resp w).length }
          = .next t ∧
      t.answers = s.answers ++ (dataPackets s.params.ep0Size resp w).map .data ∧
      (dataPackets s.params.ep0Size resp w).flatten = resp.take (dataLength resp w) ∧
      t.ctlStage = .statusOut ∧ t.ep0In = none ∧ t.zlpOwed = false ∧ t.inputs = []

/-- What reaches the host for a GET_DESCRIPTOR: the packets it takes, put together in their order, are the stored
entry cut to wLength; for wLength 0 there is no data stage (20_memory.md R56, which the spec marks as its own
inference; the moves of the host and the engine in turn are assumption 2). -/
def Obligations.DescriptorReadReassemblesTheStoredEntry : Prop :=
  ∀ (s : State) (a : SetupArgs) (bytes : List Byte), Ready s → Admitted s.params →
    describe s.params.desc (BitVec.ofNat 8 (a.value.toNat / 256)) = .found bytes →
    (a.length.toNat = 0 → exec (.getDescriptorDevice a) s = .next (statusArmed s)) ∧
    (a.length.toNat ≠ 0 →
      ∃ t u n, exec (.getDescriptorDevice a) s = .next t ∧
        Sys2Proof.core.run (2 * n) { t with inputs := inRounds s.address n } = .next u ∧
        ∃ packets : List (List Byte), u.answers = s.answers ++ packets.map .data ∧
          packets.length = n ∧ packets.flatten = bytes.take (min a.length.toNat bytes.length) ∧
          u.ctlStage = .statusOut)

/-- A configured device reports: SET_CONFIGURATION with a non-zero value, its status packet taken, one more
engine turn, and an IN token to endpoint 1 gets the current report, hat nibble and buttons those of the last
sample (45_report_endpoint.md R120; the list of moves is assumption 2). -/
def Obligations.ConfigurationMakesTheDeviceReport : Prop :=
  ∀ (s t : State) (a : SetupArgs), Ready s → 0 < s.params.ep1Banks → s.devState ≠ .default →
    a.value.toNat % 256 ≠ 0 → ep1Accepted s.params → exec (.setConfigurationDevice a) s = .next t →
    ∃ u, Sys2Proof.core.run 4
        { t with inputs := inRounds s.address 1 ++ [.engine, .host (.inToken s.address 1)] } = .next u ∧
      u.answers = s.answers ++
        [.data [], .data [(currentReport s).b0, (currentReport s).b1, (currentReport s).b2]] ∧
      u.devState = .configured ∧ u.lastReport = currentReport s ∧ u.ep1Banks = [] ∧ u.ctlStage = .idle
end

