-- ==== Sys2Proof/Laws/Codec.lean ====
section
/-! SUPPORT. The byte-order lemmas of the decoder and the encoder. -/

namespace Sys2Proof

@[simp] theorem le16_lowByte_highByte (w : Word) : le16 (lowByte w) (highByte w) = w := by
  apply BitVec.eq_of_getLsbD_eq
  intro i hi
  simp only [le16, lowByte, highByte, BitVec.getLsbD_append, BitVec.getLsbD_extractLsb']
  by_cases h : i < 8
  · simp [h]
  · have h2 : i - 8 < 8 := by omega
    have h3 : 8 + (i - 8) = i := by omega
    simp [h, h2, h3]

@[simp] theorem lowByte_le16 (lo hi : Byte) : lowByte (le16 lo hi) = lo := by
  apply BitVec.eq_of_getLsbD_eq
  intro i h
  simp only [le16, lowByte, BitVec.getLsbD_extractLsb', BitVec.getLsbD_append]
  simp [h]

@[simp] theorem highByte_le16 (lo hi : Byte) : highByte (le16 lo hi) = hi := by
  apply BitVec.eq_of_getLsbD_eq
  intro i h
  simp only [le16, highByte, BitVec.getLsbD_extractLsb', BitVec.getLsbD_append]
  simp [h]

/-- The value of a little-endian field. -/
theorem toNat_le16 (lo hi : Byte) : (le16 lo hi).toNat = lo.toNat + 256 * hi.toNat := by
  have hlo := lo.isLt
  have hor := Nat.shiftLeft_add_eq_or_of_lt hlo hi.toNat
  have hmul := Nat.shiftLeft_eq hi.toNat 8
  have happ : (le16 lo hi).toNat = hi.toNat <<< 8 ||| lo.toNat :=
    BitVec.toNat_append hi lo
  omega

/-- Bits 7:0 as a remainder. -/
theorem toNat_lowByte (w : Word) : (lowByte w).toNat = w.toNat % 256 := by
  simp [lowByte, BitVec.extractLsb'_toNat]

/-- Bits 15:8 as a quotient. -/
theorem toNat_highByte (w : Word) : (highByte w).toNat = w.toNat / 256 := by
  have h := w.isLt
  simp only [highByte, BitVec.extractLsb'_toNat, Nat.shiftRight_eq_div_pow]
  omega

end Sys2Proof
end

