-- ==== Sys2Proof/Laws/State.lean ====
section
/-! SUPPORT. One lemma per field for each named update of State, so that no proof unfolds a record update. -/

namespace Sys2Proof.Machine

variable (s : State) (c : FaultCause)

@[simp] theorem flush0_devState : (flush0 s).devState = s.devState := rfl
@[simp] theorem flush0_address : (flush0 s).address = s.address := rfl
@[simp] theorem flush0_configuration : (flush0 s).configuration = s.configuration := rfl
@[simp] theorem flush0_interfaceAlt : (flush0 s).interfaceAlt = s.interfaceAlt := rfl
@[simp] theorem flush0_idleRate : (flush0 s).idleRate = s.idleRate := rfl
@[simp] theorem flush0_ctlStage : (flush0 s).ctlStage = s.ctlStage := rfl
@[simp] theorem flush0_ctlLen : (flush0 s).ctlLen = s.ctlLen := rfl
@[simp] theorem flush0_ctlOff : (flush0 s).ctlOff = s.ctlOff := rfl
@[simp] theorem flush0_zlpOwed : (flush0 s).zlpOwed = s.zlpOwed := rfl
@[simp] theorem flush0_paddrValid : (flush0 s).paddrValid = s.paddrValid := rfl
@[simp] theorem flush0_ctlPaddr : (flush0 s).ctlPaddr = s.ctlPaddr := rfl
@[simp] theorem flush0_ep0Enabled : (flush0 s).ep0Enabled = s.ep0Enabled := rfl
@[simp] theorem flush0_ep0Stall : (flush0 s).ep0Stall = s.ep0Stall := rfl
@[simp] theorem flush0_ep1Active : (flush0 s).ep1Active = s.ep1Active := rfl
@[simp] theorem flush0_halted : (flush0 s).halted = s.halted := rfl
@[simp] theorem flush0_faultCause : (flush0 s).faultCause = s.faultCause := rfl
@[simp] theorem flush0_lastReport : (flush0 s).lastReport = s.lastReport := rfl
@[simp] theorem flush0_ctlBuf : (flush0 s).ctlBuf = s.ctlBuf := rfl
@[simp] theorem flush0_padEnabled : (flush0 s).padEnabled = s.padEnabled := rfl
@[simp] theorem flush0_usbEnabled : (flush0 s).usbEnabled = s.usbEnabled := rfl
@[simp] theorem flush0_attached : (flush0 s).attached = s.attached := rfl
@[simp] theorem flush0_busIntEnabled : (flush0 s).busIntEnabled = s.busIntEnabled := rfl
@[simp] theorem flush0_comIntEnabled : (flush0 s).comIntEnabled = s.comIntEnabled := rfl
@[simp] theorem flush0_flagBusReset : (flush0 s).flagBusReset = s.flagBusReset := rfl
@[simp] theorem flush0_flagSetup : (flush0 s).flagSetup = s.flagSetup := rfl
@[simp] theorem flush0_flagOut0 : (flush0 s).flagOut0 = s.flagOut0 := rfl
@[simp] theorem flush0_flagIn0 : (flush0 s).flagIn0 = s.flagIn0 := rfl
@[simp] theorem flush0_setupLatch : (flush0 s).setupLatch = s.setupLatch := rfl
@[simp] theorem flush0_setupRd : (flush0 s).setupRd = s.setupRd := rfl
@[simp] theorem flush0_out0Latch : (flush0 s).out0Latch = s.out0Latch := rfl
@[simp] theorem flush0_ep0In : (flush0 s).ep0In = none := rfl
@[simp] theorem flush0_ep1Banks : (flush0 s).ep1Banks = s.ep1Banks := rfl
@[simp] theorem flush0_params : (flush0 s).params = s.params := rfl
@[simp] theorem flush0_sampler : (flush0 s).sampler = s.sampler := rfl
@[simp] theorem flush0_inputs : (flush0 s).inputs = s.inputs := rfl
@[simp] theorem flush0_answers : (flush0 s).answers = s.answers := rfl

@[simp] theorem disableEp0_devState : (disableEp0 s).devState = s.devState := rfl
@[simp] theorem disableEp0_address : (disableEp0 s).address = s.address := rfl
@[simp] theorem disableEp0_configuration : (disableEp0 s).configuration = s.configuration := rfl
@[simp] theorem disableEp0_interfaceAlt : (disableEp0 s).interfaceAlt = s.interfaceAlt := rfl
@[simp] theorem disableEp0_idleRate : (disableEp0 s).idleRate = s.idleRate := rfl
@[simp] theorem disableEp0_ctlStage : (disableEp0 s).ctlStage = s.ctlStage := rfl
@[simp] theorem disableEp0_ctlLen : (disableEp0 s).ctlLen = s.ctlLen := rfl
@[simp] theorem disableEp0_ctlOff : (disableEp0 s).ctlOff = s.ctlOff := rfl
@[simp] theorem disableEp0_zlpOwed : (disableEp0 s).zlpOwed = s.zlpOwed := rfl
@[simp] theorem disableEp0_paddrValid : (disableEp0 s).paddrValid = s.paddrValid := rfl
@[simp] theorem disableEp0_ctlPaddr : (disableEp0 s).ctlPaddr = s.ctlPaddr := rfl
@[simp] theorem disableEp0_ep0Enabled : (disableEp0 s).ep0Enabled = false := rfl
@[simp] theorem disableEp0_ep0Stall : (disableEp0 s).ep0Stall = s.ep0Stall := rfl
@[simp] theorem disableEp0_ep1Active : (disableEp0 s).ep1Active = s.ep1Active := rfl
@[simp] theorem disableEp0_halted : (disableEp0 s).halted = s.halted := rfl
@[simp] theorem disableEp0_faultCause : (disableEp0 s).faultCause = s.faultCause := rfl
@[simp] theorem disableEp0_lastReport : (disableEp0 s).lastReport = s.lastReport := rfl
@[simp] theorem disableEp0_ctlBuf : (disableEp0 s).ctlBuf = s.ctlBuf := rfl
@[simp] theorem disableEp0_padEnabled : (disableEp0 s).padEnabled = s.padEnabled := rfl
@[simp] theorem disableEp0_usbEnabled : (disableEp0 s).usbEnabled = s.usbEnabled := rfl
@[simp] theorem disableEp0_attached : (disableEp0 s).attached = s.attached := rfl
@[simp] theorem disableEp0_busIntEnabled : (disableEp0 s).busIntEnabled = s.busIntEnabled := rfl
@[simp] theorem disableEp0_comIntEnabled : (disableEp0 s).comIntEnabled = s.comIntEnabled := rfl
@[simp] theorem disableEp0_flagBusReset : (disableEp0 s).flagBusReset = s.flagBusReset := rfl
@[simp] theorem disableEp0_flagSetup : (disableEp0 s).flagSetup = s.flagSetup := rfl
@[simp] theorem disableEp0_flagOut0 : (disableEp0 s).flagOut0 = false := rfl
@[simp] theorem disableEp0_flagIn0 : (disableEp0 s).flagIn0 = false := rfl
@[simp] theorem disableEp0_setupLatch : (disableEp0 s).setupLatch = s.setupLatch := rfl
@[simp] theorem disableEp0_setupRd : (disableEp0 s).setupRd = s.setupRd := rfl
@[simp] theorem disableEp0_out0Latch : (disableEp0 s).out0Latch = s.out0Latch := rfl
@[simp] theorem disableEp0_ep0In : (disableEp0 s).ep0In = none := rfl
@[simp] theorem disableEp0_ep1Banks : (disableEp0 s).ep1Banks = s.ep1Banks := rfl
@[simp] theorem disableEp0_params : (disableEp0 s).params = s.params := rfl
@[simp] theorem disableEp0_sampler : (disableEp0 s).sampler = s.sampler := rfl
@[simp] theorem disableEp0_inputs : (disableEp0 s).inputs = s.inputs := rfl
@[simp] theorem disableEp0_answers : (disableEp0 s).answers = s.answers := rfl

@[simp] theorem disableEp1_devState : (disableEp1 s).devState = s.devState := rfl
@[simp] theorem disableEp1_address : (disableEp1 s).address = s.address := rfl
@[simp] theorem disableEp1_configuration : (disableEp1 s).configuration = s.configuration := rfl
@[simp] theorem disableEp1_interfaceAlt : (disableEp1 s).interfaceAlt = s.interfaceAlt := rfl
@[simp] theorem disableEp1_idleRate : (disableEp1 s).idleRate = s.idleRate := rfl
@[simp] theorem disableEp1_ctlStage : (disableEp1 s).ctlStage = s.ctlStage := rfl
@[simp] theorem disableEp1_ctlLen : (disableEp1 s).ctlLen = s.ctlLen := rfl
@[simp] theorem disableEp1_ctlOff : (disableEp1 s).ctlOff = s.ctlOff := rfl
@[simp] theorem disableEp1_zlpOwed : (disableEp1 s).zlpOwed = s.zlpOwed := rfl
@[simp] theorem disableEp1_paddrValid : (disableEp1 s).paddrValid = s.paddrValid := rfl
@[simp] theorem disableEp1_ctlPaddr : (disableEp1 s).ctlPaddr = s.ctlPaddr := rfl
@[simp] theorem disableEp1_ep0Enabled : (disableEp1 s).ep0Enabled = s.ep0Enabled := rfl
@[simp] theorem disableEp1_ep0Stall : (disableEp1 s).ep0Stall = s.ep0Stall := rfl
@[simp] theorem disableEp1_ep1Active : (disableEp1 s).ep1Active = false := rfl
@[simp] theorem disableEp1_halted : (disableEp1 s).halted = s.halted := rfl
@[simp] theorem disableEp1_faultCause : (disableEp1 s).faultCause = s.faultCause := rfl
@[simp] theorem disableEp1_lastReport : (disableEp1 s).lastReport = s.lastReport := rfl
@[simp] theorem disableEp1_ctlBuf : (disableEp1 s).ctlBuf = s.ctlBuf := rfl
@[simp] theorem disableEp1_padEnabled : (disableEp1 s).padEnabled = s.padEnabled := rfl
@[simp] theorem disableEp1_usbEnabled : (disableEp1 s).usbEnabled = s.usbEnabled := rfl
@[simp] theorem disableEp1_attached : (disableEp1 s).attached = s.attached := rfl
@[simp] theorem disableEp1_busIntEnabled : (disableEp1 s).busIntEnabled = s.busIntEnabled := rfl
@[simp] theorem disableEp1_comIntEnabled : (disableEp1 s).comIntEnabled = s.comIntEnabled := rfl
@[simp] theorem disableEp1_flagBusReset : (disableEp1 s).flagBusReset = s.flagBusReset := rfl
@[simp] theorem disableEp1_flagSetup : (disableEp1 s).flagSetup = s.flagSetup := rfl
@[simp] theorem disableEp1_flagOut0 : (disableEp1 s).flagOut0 = s.flagOut0 := rfl
@[simp] theorem disableEp1_flagIn0 : (disableEp1 s).flagIn0 = s.flagIn0 := rfl
@[simp] theorem disableEp1_setupLatch : (disableEp1 s).setupLatch = s.setupLatch := rfl
@[simp] theorem disableEp1_setupRd : (disableEp1 s).setupRd = s.setupRd := rfl
@[simp] theorem disableEp1_out0Latch : (disableEp1 s).out0Latch = s.out0Latch := rfl
@[simp] theorem disableEp1_ep0In : (disableEp1 s).ep0In = s.ep0In := rfl
@[simp] theorem disableEp1_ep1Banks : (disableEp1 s).ep1Banks = [] := rfl
@[simp] theorem disableEp1_params : (disableEp1 s).params = s.params := rfl
@[simp] theorem disableEp1_sampler : (disableEp1 s).sampler = s.sampler := rfl
@[simp] theorem disableEp1_inputs : (disableEp1 s).inputs = s.inputs := rfl
@[simp] theorem disableEp1_answers : (disableEp1 s).answers = s.answers := rfl

@[simp] theorem raiseHalt_devState : (raiseHalt c s).devState = s.devState := rfl
@[simp] theorem raiseHalt_address : (raiseHalt c s).address = s.address := rfl
@[simp] theorem raiseHalt_configuration : (raiseHalt c s).configuration = s.configuration := rfl
@[simp] theorem raiseHalt_interfaceAlt : (raiseHalt c s).interfaceAlt = s.interfaceAlt := rfl
@[simp] theorem raiseHalt_idleRate : (raiseHalt c s).idleRate = s.idleRate := rfl
@[simp] theorem raiseHalt_ctlStage : (raiseHalt c s).ctlStage = s.ctlStage := rfl
@[simp] theorem raiseHalt_ctlLen : (raiseHalt c s).ctlLen = s.ctlLen := rfl
@[simp] theorem raiseHalt_ctlOff : (raiseHalt c s).ctlOff = s.ctlOff := rfl
@[simp] theorem raiseHalt_zlpOwed : (raiseHalt c s).zlpOwed = s.zlpOwed := rfl
@[simp] theorem raiseHalt_paddrValid : (raiseHalt c s).paddrValid = s.paddrValid := rfl
@[simp] theorem raiseHalt_ctlPaddr : (raiseHalt c s).ctlPaddr = s.ctlPaddr := rfl
@[simp] theorem raiseHalt_ep0Enabled : (raiseHalt c s).ep0Enabled = s.ep0Enabled := rfl
@[simp] theorem raiseHalt_ep0Stall : (raiseHalt c s).ep0Stall = s.ep0Stall := rfl
@[simp] theorem raiseHalt_ep1Active : (raiseHalt c s).ep1Active = s.ep1Active := rfl
@[simp] theorem raiseHalt_halted : (raiseHalt c s).halted = true := rfl
@[simp] theorem raiseHalt_faultCause : (raiseHalt c s).faultCause = c := rfl
@[simp] theorem raiseHalt_lastReport : (raiseHalt c s).lastReport = s.lastReport := rfl
@[simp] theorem raiseHalt_ctlBuf : (raiseHalt c s).ctlBuf = s.ctlBuf := rfl
@[simp] theorem raiseHalt_padEnabled : (raiseHalt c s).padEnabled = s.padEnabled := rfl
@[simp] theorem raiseHalt_usbEnabled : (raiseHalt c s).usbEnabled = s.usbEnabled := rfl
@[simp] theorem raiseHalt_attached : (raiseHalt c s).attached = s.attached := rfl
@[simp] theorem raiseHalt_busIntEnabled : (raiseHalt c s).busIntEnabled = s.busIntEnabled := rfl
@[simp] theorem raiseHalt_comIntEnabled : (raiseHalt c s).comIntEnabled = s.comIntEnabled := rfl
@[simp] theorem raiseHalt_flagBusReset : (raiseHalt c s).flagBusReset = s.flagBusReset := rfl
@[simp] theorem raiseHalt_flagSetup : (raiseHalt c s).flagSetup = s.flagSetup := rfl
@[simp] theorem raiseHalt_flagOut0 : (raiseHalt c s).flagOut0 = s.flagOut0 := rfl
@[simp] theorem raiseHalt_flagIn0 : (raiseHalt c s).flagIn0 = s.flagIn0 := rfl
@[simp] theorem raiseHalt_setupLatch : (raiseHalt c s).setupLatch = s.setupLatch := rfl
@[simp] theorem raiseHalt_setupRd : (raiseHalt c s).setupRd = s.setupRd := rfl
@[simp] theorem raiseHalt_out0Latch : (raiseHalt c s).out0Latch = s.out0Latch := rfl
@[simp] theorem raiseHalt_ep0In : (raiseHalt c s).ep0In = s.ep0In := rfl
@[simp] theorem raiseHalt_ep1Banks : (raiseHalt c s).ep1Banks = s.ep1Banks := rfl
@[simp] theorem raiseHalt_params : (raiseHalt c s).params = s.params := rfl
@[simp] theorem raiseHalt_sampler : (raiseHalt c s).sampler = s.sampler := rfl
@[simp] theorem raiseHalt_inputs : (raiseHalt c s).inputs = s.inputs := rfl
@[simp] theorem raiseHalt_answers : (raiseHalt c s).answers = s.answers := rfl

@[simp] theorem abortTransfer_devState : (abortTransfer s).devState = s.devState := rfl
@[simp] theorem abortTransfer_address : (abortTransfer s).address = s.address := rfl
@[simp] theorem abortTransfer_configuration : (abortTransfer s).configuration = s.configuration := rfl
@[simp] theorem abortTransfer_interfaceAlt : (abortTransfer s).interfaceAlt = s.interfaceAlt := rfl
@[simp] theorem abortTransfer_idleRate : (abortTransfer s).idleRate = s.idleRate := rfl
@[simp] theorem abortTransfer_ctlStage : (abortTransfer s).ctlStage = .idle := rfl
@[simp] theorem abortTransfer_ctlLen : (abortTransfer s).ctlLen = s.ctlLen := rfl
@[simp] theorem abortTransfer_ctlOff : (abortTransfer s).ctlOff = s.ctlOff := rfl
@[simp] theorem abortTransfer_zlpOwed : (abortTransfer s).zlpOwed = false := rfl
@[simp] theorem abortTransfer_paddrValid : (abortTransfer s).paddrValid = false := rfl
@[simp] theorem abortTransfer_ctlPaddr : (abortTransfer s).ctlPaddr = s.ctlPaddr := rfl
@[simp] theorem abortTransfer_ep0Enabled : (abortTransfer s).ep0Enabled = s.ep0Enabled := rfl
@[simp] theorem abortTransfer_ep0Stall : (abortTransfer s).ep0Stall = false := rfl
@[simp] theorem abortTransfer_ep1Active : (abortTransfer s).ep1Active = s.ep1Active := rfl
@[simp] theorem abortTransfer_halted : (abortTransfer s).halted = s.halted := rfl
@[simp] theorem abortTransfer_faultCause : (abortTransfer s).faultCause = s.faultCause := rfl
@[simp] theorem abortTransfer_lastReport : (abortTransfer s).lastReport = s.lastReport := rfl
@[simp] theorem abortTransfer_ctlBuf : (abortTransfer s).ctlBuf = s.ctlBuf := rfl
@[simp] theorem abortTransfer_padEnabled : (abortTransfer s).padEnabled = s.padEnabled := rfl
@[simp] theorem abortTransfer_usbEnabled : (abortTransfer s).usbEnabled = s.usbEnabled := rfl
@[simp] theorem abortTransfer_attached : (abortTransfer s).attached = s.attached := rfl
@[simp] theorem abortTransfer_busIntEnabled : (abortTransfer s).busIntEnabled = s.busIntEnabled := rfl
@[simp] theorem abortTransfer_comIntEnabled : (abortTransfer s).comIntEnabled = s.comIntEnabled := rfl
@[simp] theorem abortTransfer_flagBusReset : (abortTransfer s).flagBusReset = s.flagBusReset := rfl
@[simp] theorem abortTransfer_flagSetup : (abortTransfer s).flagSetup = false := rfl
@[simp] theorem abortTransfer_flagOut0 : (abortTransfer s).flagOut0 = false := rfl
@[simp] theorem abortTransfer_flagIn0 : (abortTransfer s).flagIn0 = false := rfl
@[simp] theorem abortTransfer_setupLatch : (abortTransfer s).setupLatch = s.setupLatch := rfl
@[simp] theorem abortTransfer_setupRd : (abortTransfer s).setupRd = s.setupRd := rfl
@[simp] theorem abortTransfer_out0Latch : (abortTransfer s).out0Latch = s.out0Latch := rfl
@[simp] theorem abortTransfer_ep0In : (abortTransfer s).ep0In = none := rfl
@[simp] theorem abortTransfer_ep1Banks : (abortTransfer s).ep1Banks = s.ep1Banks := rfl
@[simp] theorem abortTransfer_params : (abortTransfer s).params = s.params := rfl
@[simp] theorem abortTransfer_sampler : (abortTransfer s).sampler = s.sampler := rfl
@[simp] theorem abortTransfer_inputs : (abortTransfer s).inputs = s.inputs := rfl
@[simp] theorem abortTransfer_answers : (abortTransfer s).answers = s.answers := rfl

@[simp] theorem stallOutcome_devState : (stallOutcome s).devState = s.devState := rfl
@[simp] theorem stallOutcome_address : (stallOutcome s).address = s.address := rfl
@[simp] theorem stallOutcome_configuration : (stallOutcome s).configuration = s.configuration := rfl
@[simp] theorem stallOutcome_interfaceAlt : (stallOutcome s).interfaceAlt = s.interfaceAlt := rfl
@[simp] theorem stallOutcome_idleRate : (stallOutcome s).idleRate = s.idleRate := rfl
@[simp] theorem stallOutcome_ctlStage : (stallOutcome s).ctlStage = .idle := rfl
@[simp] theorem stallOutcome_ctlLen : (stallOutcome s).ctlLen = s.ctlLen := rfl
@[simp] theorem stallOutcome_ctlOff : (stallOutcome s).ctlOff = s.ctlOff := rfl
@[simp] theorem stallOutcome_zlpOwed : (stallOutcome s).zlpOwed = s.zlpOwed := rfl
@[simp] theorem stallOutcome_paddrValid : (stallOutcome s).paddrValid = s.paddrValid := rfl
@[simp] theorem stallOutcome_ctlPaddr : (stallOutcome s).ctlPaddr = s.ctlPaddr := rfl
@[simp] theorem stallOutcome_ep0Enabled : (stallOutcome s).ep0Enabled = s.ep0Enabled := rfl
@[simp] theorem stallOutcome_ep0Stall : (stallOutcome s).ep0Stall = true := rfl
@[simp] theorem stallOutcome_ep1Active : (stallOutcome s).ep1Active = s.ep1Active := rfl
@[simp] theorem stallOutcome_halted : (stallOutcome s).halted = s.halted := rfl
@[simp] theorem stallOutcome_faultCause : (stallOutcome s).faultCause = s.faultCause := rfl
@[simp] theorem stallOutcome_lastReport : (stallOutcome s).lastReport = s.lastReport := rfl
@[simp] theorem stallOutcome_ctlBuf : (stallOutcome s).ctlBuf = s.ctlBuf := rfl
@[simp] theorem stallOutcome_padEnabled : (stallOutcome s).padEnabled = s.padEnabled := rfl
@[simp] theorem stallOutcome_usbEnabled : (stallOutcome s).usbEnabled = s.usbEnabled := rfl
@[simp] theorem stallOutcome_attached : (stallOutcome s).attached = s.attached := rfl
@[simp] theorem stallOutcome_busIntEnabled : (stallOutcome s).busIntEnabled = s.busIntEnabled := rfl
@[simp] theorem stallOutcome_comIntEnabled : (stallOutcome s).comIntEnabled = s.comIntEnabled := rfl
@[simp] theorem stallOutcome_flagBusReset : (stallOutcome s).flagBusReset = s.flagBusReset := rfl
@[simp] theorem stallOutcome_flagSetup : (stallOutcome s).flagSetup = s.flagSetup := rfl
@[simp] theorem stallOutcome_flagOut0 : (stallOutcome s).flagOut0 = s.flagOut0 := rfl
@[simp] theorem stallOutcome_flagIn0 : (stallOutcome s).flagIn0 = s.flagIn0 := rfl
@[simp] theorem stallOutcome_setupLatch : (stallOutcome s).setupLatch = s.setupLatch := rfl
@[simp] theorem stallOutcome_setupRd : (stallOutcome s).setupRd = s.setupRd := rfl
@[simp] theorem stallOutcome_out0Latch : (stallOutcome s).out0Latch = s.out0Latch := rfl
@[simp] theorem stallOutcome_ep0In : (stallOutcome s).ep0In = s.ep0In := rfl
@[simp] theorem stallOutcome_ep1Banks : (stallOutcome s).ep1Banks = s.ep1Banks := rfl
@[simp] theorem stallOutcome_params : (stallOutcome s).params = s.params := rfl
@[simp] theorem stallOutcome_sampler : (stallOutcome s).sampler = s.sampler := rfl
@[simp] theorem stallOutcome_inputs : (stallOutcome s).inputs = s.inputs := rfl
@[simp] theorem stallOutcome_answers : (stallOutcome s).answers = s.answers := rfl

@[simp] theorem busResetRegisters_devState : (busResetRegisters s).devState = .default := rfl
@[simp] theorem busResetRegisters_address : (busResetRegisters s).address = 0 := rfl
@[simp] theorem busResetRegisters_configuration : (busResetRegisters s).configuration = 0 := rfl
@[simp] theorem busResetRegisters_interfaceAlt : (busResetRegisters s).interfaceAlt = 0 := rfl
@[simp] theorem busResetRegisters_idleRate : (busResetRegisters s).idleRate = s.idleRate := rfl
@[simp] theorem busResetRegisters_ctlStage : (busResetRegisters s).ctlStage = .idle := rfl
@[simp] theorem busResetRegisters_ctlLen : (busResetRegisters s).ctlLen = s.ctlLen := rfl
@[simp] theorem busResetRegisters_ctlOff : (busResetRegisters s).ctlOff = s.ctlOff := rfl
@[simp] theorem busResetRegisters_zlpOwed : (busResetRegisters s).zlpOwed = false := rfl
@[simp] theorem busResetRegisters_paddrValid : (busResetRegisters s).paddrValid = false := rfl
@[simp] theorem busResetRegisters_ctlPaddr : (busResetRegisters s).ctlPaddr = s.ctlPaddr := rfl
@[simp] theorem busResetRegisters_ep0Enabled : (busResetRegisters s).ep0Enabled = s.ep0Enabled := rfl
@[simp] theorem busResetRegisters_ep0Stall : (busResetRegisters s).ep0Stall = false := rfl
@[simp] theorem busResetRegisters_ep1Active : (busResetRegisters s).ep1Active = false := rfl
@[simp] theorem busResetRegisters_halted : (busResetRegisters s).halted = s.halted := rfl
@[simp] theorem busResetRegisters_faultCause : (busResetRegisters s).faultCause = s.faultCause := rfl
@[simp] theorem busResetRegisters_lastReport : (busResetRegisters s).lastReport = s.lastReport := rfl
@[simp] theorem busResetRegisters_ctlBuf : (busResetRegisters s).ctlBuf = s.ctlBuf := rfl
@[simp] theorem busResetRegisters_padEnabled : (busResetRegisters s).padEnabled = s.padEnabled := rfl
@[simp] theorem busResetRegisters_usbEnabled : (busResetRegisters s).usbEnabled = s.usbEnabled := rfl
@[simp] theorem busResetRegisters_attached : (busResetRegisters s).attached = s.attached := rfl
@[simp] theorem busResetRegisters_busIntEnabled : (busResetRegisters s).busIntEnabled = s.busIntEnabled := rfl
@[simp] theorem busResetRegisters_comIntEnabled : (busResetRegisters s).comIntEnabled = s.comIntEnabled := rfl
@[simp] theorem busResetRegisters_flagBusReset : (busResetRegisters s).flagBusReset = false := rfl
@[simp] theorem busResetRegisters_flagSetup : (busResetRegisters s).flagSetup = false := rfl
@[simp] theorem busResetRegisters_flagOut0 : (busResetRegisters s).flagOut0 = s.flagOut0 := rfl
@[simp] theorem busResetRegisters_flagIn0 : (busResetRegisters s).flagIn0 = s.flagIn0 := rfl
@[simp] theorem busResetRegisters_setupLatch : (busResetRegisters s).setupLatch = s.setupLatch := rfl
@[simp] theorem busResetRegisters_setupRd : (busResetRegisters s).setupRd = 0 := rfl
@[simp] theorem busResetRegisters_out0Latch : (busResetRegisters s).out0Latch = s.out0Latch := rfl
@[simp] theorem busResetRegisters_ep0In : (busResetRegisters s).ep0In = s.ep0In := rfl
@[simp] theorem busResetRegisters_ep1Banks : (busResetRegisters s).ep1Banks = [] := rfl
@[simp] theorem busResetRegisters_params : (busResetRegisters s).params = s.params := rfl
@[simp] theorem busResetRegisters_sampler : (busResetRegisters s).sampler = s.sampler := rfl
@[simp] theorem busResetRegisters_inputs : (busResetRegisters s).inputs = s.inputs := rfl
@[simp] theorem busResetRegisters_answers : (busResetRegisters s).answers = s.answers := rfl

end Sys2Proof.Machine
end

