-- ==== Sys2Proof/Laws/Ops.lean ====
section
/-! SUPPORT. One lemma for each shared operation, saying once what it can do. -/

namespace Sys2Proof.Machine

/-- `Arm(0, bytes)` answers a next state exactly where its precondition holds, and then only fills the bank. -/
theorem arm0_next_iff (site : ArmSite) (bytes : List Byte) (s t : State) :
    arm0 site bytes s = .next t ↔
      s.ep0In = none ∧ bytes.length ≤ s.params.ep0Size ∧ t = { s with ep0In := some bytes } := by
  unfold arm0
  split
  · rename_i h
    simp only [Host.Outcome.next.injEq, h, true_and]
    exact eq_comm
  · rename_i h
    simp only [reduceCtorEq, false_iff]
    exact fun hc => h ⟨hc.1, hc.2.1⟩

/-- A free bank takes any packet that fits. -/
theorem arm0_free {bytes : List Byte} {s : State} (site : ArmSite) (hf : s.ep0In = none)
    (hl : bytes.length ≤ s.params.ep0Size) : arm0 site bytes s = .next { s with ep0In := some bytes } :=
  (arm0_next_iff site bytes s _).2 ⟨hf, hl, rfl⟩

/-- `Arm(1, report)` answers a next state exactly where its precondition holds, and then only appends. -/
theorem arm1_next_iff (r : Report) (s t : State) :
    arm1 r s = .next t ↔
      s.ep1Active = true ∧ s.ep1Banks.length < s.params.ep1Banks ∧
        t = { s with ep1Banks := s.ep1Banks ++ [r] } := by
  unfold arm1
  split
  · rename_i h
    simp only [Host.Outcome.next.injEq, h, true_and]
    exact eq_comm
  · rename_i h
    simp only [reduceCtorEq, false_iff]
    exact fun hc => h ⟨hc.1, hc.2.1⟩

/-- An active endpoint with a free bank takes a report. -/
theorem arm1_free {s : State} (r : Report) (ha : s.ep1Active = true)
    (hb : s.ep1Banks.length < s.params.ep1Banks) :
    arm1 r s = .next { s with ep1Banks := s.ep1Banks ++ [r] } :=
  (arm1_next_iff r s _).2 ⟨ha, hb, rfl⟩

/-- A read below the latch's end returns its byte and advances the pointer. -/
theorem fifoRead0_of_lt {s : State} (h : s.setupRd < 8) :
    fifoRead0 s = some (s.setupLatch[s.setupRd], { s with setupRd := s.setupRd + 1 }) := by
  simp [fifoRead0, h]

/-- The packet the latch holds. -/
def latchedPacket (s : State) : SetupPacket :=
  parseSetup s.setupLatch[0] s.setupLatch[1] s.setupLatch[2] s.setupLatch[3] s.setupLatch[4]
    s.setupLatch[5] s.setupLatch[6] s.setupLatch[7]

/-- Eight reads from the start give the latched packet and leave the pointer at 8. -/
theorem readSetup_of_start {s : State} (h : s.setupRd = 0) :
    readSetup s = some (latchedPacket s, { s with setupRd := 8 }) := by
  simp [readSetup, fifoRead0, h, latchedPacket]

/-- `ConfigEP(0, ...)` by the peripheral's answer. -/
theorem configEp_ep0 (s : State) :
    configEp (ep0Config s.params) s =
      if cfgOk s.params (ep0Config s.params) then (true, { disableEp0 s with ep0Enabled := true })
      else (false, disableEp0 s) := rfl

/-- `ConfigEP(1, ...)` by the peripheral's answer. -/
theorem configEp_ep1 (s : State) :
    configEp (ep1Config s.params) s =
      if cfgOk s.params (ep1Config s.params) then (true, { disableEp1 s with ep1Active := true })
      else (false, disableEp1 s) := rfl

/-- A draw writes at most LAST_REPORT. -/
theorem drawReport_eq (s : State) :
    drawReport s = { s with lastReport := (drawReport s).lastReport } := by
  unfold drawReport
  split <;> rfl

/-- A found lookup stays inside its table, and its length is that of the bytes read. -/
theorem memRead_eq_some_iff (table bytes : List Byte) (off n : Nat) :
    memRead table off n = some bytes ↔ off + n ≤ table.length ∧ bytes = (table.drop off).take n := by
  unfold memRead
  split
  · rename_i h
    simp only [Option.some.injEq, h, true_and]
    exact eq_comm
  · rename_i h
    simp only [reduceCtorEq, false_iff]
    exact fun hc => h hc.1

/-- Admitted parameters pass every admission check. -/
theorem admitted_check {p : Params} (h : Admitted p) (c : Rejection × Bool) (hc : c ∈ admissionChecks p) :
    c.2 = true := by
  have hn : (admissionChecks p).find? (fun c => !c.2) = none := by
    simpa [Admitted, rejection] using h
  simpa using List.find?_eq_none.1 hn c hc

/-- A field list fits a layout exactly when its head fits the layout's and its tail the rest. -/
theorem fitsLayout_cons_iff (p : HidField → Bool) (ps : List (HidField → Bool)) (fs : List HidField) :
    fitsLayout (p :: ps) fs = true ↔ ∃ f rest, fs = f :: rest ∧ p f = true ∧ fitsLayout ps rest = true := by
  cases fs <;> simp [fitsLayout]

/-- A report descriptor is admitted exactly when the fields read from it fit R66's layout. -/
theorem reportDescriptorOk_iff (table : List Byte) :
    reportDescriptorOk table = true ↔
      ∃ fields, reportFields table = some fields ∧ fitsLayout reportLayout fields = true := by
  unfold reportDescriptorOk
  cases reportFields table <;> simp

/-- With admitted parameters no lookup runs past its table. -/
theorem describe_ne_overrun {p : Params} (h : Admitted p) (t : Byte) : describe p.desc t ≠ .overrun := by
  have hc := admitted_check h (.returnedLength, returnedLengthsOk p.desc) (by simp [admissionChecks])
  simp only [returnedLengthsOk, List.all_cons, List.all_nil, Bool.and_true, Bool.and_eq_true,
    bne_iff_ne, ne_eq] at hc
  obtain ⟨h1, h2, h3, h4⟩ := hc
  by_cases e1 : t = 0x01
  · exact e1 ▸ h1
  by_cases e2 : t = 0x02
  · exact e2 ▸ h2
  by_cases e3 : t = 0x21
  · exact e3 ▸ h3
  by_cases e4 : t = 0x22
  · exact e4 ▸ h4
  rw [describe, if_neg e1, if_neg e2, if_neg e3, if_neg e4]
  exact fun h => Lookup.noConfusion h

end Sys2Proof.Machine
end

