-- ==== Sys2Proof/Laws/Control.lean ====
section
/-! SUPPORT. What the SETUP handler does for each outcome of a request rule, once for all requests. -/

namespace Sys2Proof.Machine

/-- A refused request: STALL requested, no other register of the transfer left in flight. -/
theorem serve_stall {rule : Rule} {a : SetupArgs} {s u : State} {c : StallCause}
    (h : rule a (abortTransfer s) = .reply (.stall c) u) : serve rule a s = .next (stallOutcome u) := by
  simp [serve, h, applyReply]

/-- A halt ends the handler with the state it was raised in. -/
theorem serve_halt {rule : Rule} {a : SetupArgs} {s u : State}
    (h : rule a (abortTransfer s) = .halt u) : serve rule a s = .next u := by
  simp [serve, h]

/-- A no-data outcome over a free bank. -/
theorem noDataOutcome_free {s : State} (pa : Option UsbAddr) (h : s.ep0In = none) :
    noDataOutcome pa s =
      .next { s with
        ep0In := some [], ctlStage := .statusIn,
        ctlPaddr := pa.getD s.ctlPaddr, paddrValid := pa.isSome || s.paddrValid } := by
  cases pa <;> simp [noDataOutcome, arm0_free, h]

/-- The state a response begins in (41_control_transfer.md R81). -/
def responseBegun (resp : List Byte) (w : Word) (s : State) : State :=
  let len := min w.toNat resp.length
  if len = 0 then { s with ep0In := some [], ctlStage := .statusIn }
  else
    { s with
      ep0In := some (resp.take (min s.params.ep0Size len)),
      ctlBuf := resp.take len, ctlLen := BitVec.ofNat 16 len,
      zlpOwed := zlpNeeded s.params.ep0Size len w.toNat,
      ctlOff := BitVec.ofNat 16 (min s.params.ep0Size len), ctlStage := .dataIn }

/-- A response over a free bank always begins: its first packet fits. -/
theorem beginResponse_free {s : State} (resp : List Byte) (w : Word) (h : s.ep0In = none) :
    beginResponse resp w s = .next (responseBegun resp w s) := by
  simp only [beginResponse, responseBegun]
  split
  · exact arm0_free _ h (Nat.zero_le _)
  · rw [List.take_take, Nat.min_assoc, Nat.min_self]
    refine arm0_free .firstChunk h ?_
    simp only [List.length_take]
    omega

/-- An outcome applied over a free bank always answers a next state. -/
theorem applyReply_free {s : State} (w : Word) (r : Reply) (h : s.ep0In = none) :
    ∃ t, applyReply w r s = .next t := by
  cases r with
  | stall c => exact ⟨_, rfl⟩
  | data resp => exact ⟨_, beginResponse_free resp w h⟩
  | noData pa => exact ⟨_, noDataOutcome_free pa h⟩

/-- A response begun in the SETUP handler. -/
theorem serve_data {rule : Rule} {a : SetupArgs} {s u : State} {resp : List Byte}
    (h : rule a (abortTransfer s) = .reply (.data resp) u) (hf : u.ep0In = none) :
    serve rule a s = .next (responseBegun resp a.length u) := by
  simp [serve, h, applyReply, beginResponse_free, hf]

/-- A no-data outcome in the SETUP handler. -/
theorem serve_noData {rule : Rule} {a : SetupArgs} {s u : State} {pa : Option UsbAddr}
    (h : rule a (abortTransfer s) = .reply (.noData pa) u) (hf : u.ep0In = none) :
    serve rule a s =
      .next { u with
        ep0In := some [], ctlStage := .statusIn,
        ctlPaddr := pa.getD u.ctlPaddr, paddrValid := pa.isSome || u.paddrValid } := by
  simp [serve, h, applyReply, noDataOutcome_free, hf]

/-- Aborting twice is aborting once. -/
theorem abortTransfer_idem (s : State) : abortTransfer (abortTransfer s) = abortTransfer s := rfl

end Sys2Proof.Machine
end

