-- ==== Sys2Proof/Laws/Dispatch.lean ====
section
/-! SUPPORT. The dispatch map of rules and the decoder's map of names have the same rows. -/

namespace Sys2Proof.Machine

/-- A row of names and a row of rules agree: the same key, and the named instruction serves the rule. -/
def RowsAgree (q : RequestRow) (d : DispatchRow) : Prop :=
  q.requestType = d.requestType ∧ q.request = d.request ∧ ∀ a s, exec (q.make a) s = serve d.rule a s

/-- The two maps agree row by row. -/
theorem rows_agree : List.Forall₂ RowsAgree requestRows dispatchMap := by
  unfold requestRows dispatchMap
  simp only [List.cons_append, List.nil_append]
  repeat (first | exact .nil | refine .cons ⟨rfl, rfl, fun _ _ => rfl⟩ ?_)

/-- Searching agreeing maps for a packet's key finds agreeing rows, or none in both. -/
theorem exec_find (p : SetupPacket) (s : State) {names : List RequestRow} {rules : List DispatchRow}
    (h : List.Forall₂ RowsAgree names rules) :
    exec (match names.find? (fun r => r.requestType == p.requestType && r.request == p.request) with
      | some r => r.make p.args
      | none => .unrecognized p.requestType p.request p.args) s =
    serve (match rules.find? (fun r => r.requestType == p.requestType && r.request == p.request) with
      | some r => r.rule
      | none => ruleUnrecognized) p.args s := by
  induction h with
  | nil => rfl
  | @cons q d l m hqd _ ih =>
    simp only [List.find?_cons, hqd.1, hqd.2.1]
    cases d.requestType == p.requestType && d.request == p.request with
    | false => exact ih
    | true => exact hqd.2.2 _ _

/-- Running the request a packet makes is serving the rule the dispatch map selects for it. -/
theorem exec_requestOf (p : SetupPacket) (s : State) :
    exec (requestOf p) s = serve (dispatchRule p) p.args s :=
  exec_find p s rows_agree

end Sys2Proof.Machine
end

