-- ==== Sys2Proof/Laws/Events.lean ====
section
/-! SUPPORT. What each event handler can do when it answers a next state, said once. -/

namespace Sys2Proof.Machine

/-- POWER_ON answers one state. -/
theorem execPowerOn_next {s t : State} (h : execPowerOn s = .next t) :
    rejection s.params = none ∧
      t = { resetItems s with
        padEnabled := true, usbEnabled := true, busIntEnabled := true, comIntEnabled := true,
        attached := true } := by
  unfold execPowerOn at h
  cases hr : rejection s.params with
  | some r => simp [hr] at h
  | none => simpa [hr, eq_comm] using h

/-- A FIFO read that succeeds was below the latch's end and moved the pointer by one. -/
theorem fifoRead0_some {s u : State} {b : Byte} (h : fifoRead0 s = some (b, u)) :
    s.setupRd < 8 ∧ u = { s with setupRd := s.setupRd + 1 } := by
  unfold fifoRead0 at h
  split at h
  · rename_i hb
    simp only [Option.some.injEq, Prod.mk.injEq] at h
    refine ⟨?_, h.2.symm⟩
    by_contra hc
    rw [Vector.getElem?_eq_none (by omega)] at hb
    cases hb
  · cases h

/-- The eight reads succeed only from the latch's start. -/
theorem readSetup_some {s : State} {r : SetupPacket × State} (h : readSetup s = some r) : s.setupRd = 0 := by
  unfold readSetup at h
  simp only [Option.bind_eq_bind, Option.bind_eq_some_iff] at h
  obtain ⟨⟨_, u1⟩, h1, ⟨_, u2⟩, h2, ⟨_, u3⟩, h3, ⟨_, u4⟩, h4, ⟨_, u5⟩, h5, ⟨_, u6⟩, h6, ⟨_, u7⟩, h7, ⟨_, u8⟩, h8, -⟩ := h
  have e1 : u1 = _ := (fifoRead0_some h1).2
  have e2 : u2 = _ := (fifoRead0_some h2).2
  have e3 : u3 = _ := (fifoRead0_some h3).2
  have e4 : u4 = _ := (fifoRead0_some h4).2
  have e5 : u5 = _ := (fifoRead0_some h5).2
  have e6 : u6 = _ := (fifoRead0_some h6).2
  have e7 : u7 = _ := (fifoRead0_some h7).2
  have l8 : u7.setupRd < 8 := (fifoRead0_some h8).1
  simp only [e7, e6, e5, e4, e3, e2, e1] at l8
  omega

/-- The SETUP handler that answers a next state served the latched packet from the latch's start. -/
theorem execSetupReceived_next {s t : State} (h : execSetupReceived s = .next t) :
    s.setupRd = 0 ∧
      serve (dispatchRule (latchedPacket s)) (latchedPacket s).args { s with setupRd := 8 } = .next t := by
  cases hr : readSetup s with
  | none => simp [execSetupReceived, hr] at h
  | some r =>
    have h0 := readSetup_some hr
    refine ⟨h0, ?_⟩
    simpa [execSetupReceived, readSetup_of_start h0] using h

/-- IN_READY(0) by the stage it found. -/
theorem execInReady0_cases {s t : State} (h : execInReady0 s = .next t) :
    (s.ctlStage = .dataIn ∧ s.ctlOff.toNat < s.ctlLen.toNat ∧ s.ep0In = none ∧
      t = { s with
        flagIn0 := false,
        ep0In := some ((s.ctlBuf.drop s.ctlOff.toNat).take
          (min s.params.ep0Size (s.ctlLen.toNat - s.ctlOff.toNat))),
        ctlOff := BitVec.ofNat 16
          (s.ctlOff.toNat + min s.params.ep0Size (s.ctlLen.toNat - s.ctlOff.toNat)) }) ∨
    (s.ctlStage = .dataIn ∧ s.zlpOwed = true ∧ s.ep0In = none ∧
      t = { s with flagIn0 := false, ep0In := some [], zlpOwed := false }) ∨
    (s.ctlStage = .dataIn ∧ s.zlpOwed = false ∧ t = { s with flagIn0 := false, ctlStage := .statusOut }) ∨
    (s.ctlStage = .statusIn ∧ t = completeStatus { s with flagIn0 := false }) ∨
    ((s.ctlStage = .idle ∨ s.ctlStage = .statusOut) ∧ t = { s with flagIn0 := false }) := by
  unfold execInReady0 at h
  cases hs : s.ctlStage <;> simp only [hs, Host.Outcome.next.injEq] at h
  · exact .inr (.inr (.inr (.inr ⟨.inl rfl, by rw [← h, ← hs]⟩)))
  · unfold continueData at h
    dsimp only at h
    split at h
    · rename_i hlt
      rw [arm0_next_iff] at h
      exact .inl ⟨rfl, hlt, h.1, by rw [h.2.2, ← hs]⟩
    · split at h
      · rename_i hz
        rw [arm0_next_iff] at h
        exact .inr (.inl ⟨rfl, hz, h.1, by rw [h.2.2, ← hs]⟩)
      · rename_i hz
        refine .inr (.inr (.inl ⟨rfl, by simpa using hz, ?_⟩))
        exact (Host.Outcome.next.inj h).symm
  · exact .inr (.inr (.inr (.inr ⟨.inr rfl, by rw [← h, ← hs]⟩)))
  · exact .inr (.inr (.inr (.inl ⟨rfl, by rw [← h, ← hs]⟩)))

/-- OUT_RECEIVED(0) by the stage it found. -/
theorem execOutReceived0_cases (s : State) :
    ((s.ctlStage = .dataIn ∨ s.ctlStage = .statusOut) ∧
      execOutReceived0 s =
        .next { s with
          flagOut0 := false, out0Latch := [], ep0In := none, zlpOwed := false, ctlStage := .idle }) ∨
    ((s.ctlStage = .statusIn ∨ s.ctlStage = .idle) ∧
      execOutReceived0 s = .next { s with flagOut0 := false, out0Latch := [] }) := by
  obtain hs | hs | hs | hs :
      s.ctlStage = .dataIn ∨ s.ctlStage = .statusOut ∨ s.ctlStage = .statusIn ∨ s.ctlStage = .idle := by
    cases s.ctlStage <;> simp
  · exact .inl ⟨.inl hs, by simp only [execOutReceived0, hs, flush0]⟩
  · exact .inl ⟨.inr hs, by simp only [execOutReceived0, hs, flush0]⟩
  · exact .inr ⟨.inl hs, by simp only [execOutReceived0, hs]⟩
  · exact .inr ⟨.inr hs, by simp only [execOutReceived0, hs]⟩

/-- IN_READY(1) always answers: one report armed, or nothing. -/
theorem execInReady1_cases (s : State) :
    (ep1BankFree s = true ∧
      execInReady1 s =
        .next { drawReport s with ep1Banks := s.ep1Banks ++ [(drawReport s).lastReport] }) ∨
    (ep1BankFree s = false ∧ execInReady1 s = .next s) := by
  unfold execInReady1
  cases hf : ep1BankFree s with
  | false => exact .inr ⟨rfl, rfl⟩
  | true =>
    refine .inl ⟨rfl, ?_⟩
    simp only [ep1BankFree, Bool.and_eq_true, decide_eq_true_eq] at hf
    rw [if_pos rfl, drawReport_eq s, arm1_free _ (by simpa using hf.1) (by simpa using hf.2)]

end Sys2Proof.Machine
end

