-- ==== Sys2Proof/Laws/HostBus.lean ====
section
/-! SUPPORT. What one host step can do, said once. -/

namespace Sys2Proof.Machine

/-- The host recorded what it got, and at most one of the rows of 60_exceptions.md R135 had its effect. -/
theorem hostStep_cases (a : HostAction) (s : State) :
    ∃ got,
      hostStep a s = { s with answers := got } ∨
      (s.attached = true ∧ hostStep a s = { s with flagBusReset := true, answers := got }) ∨
      (s.ep0Enabled = true ∧ ∃ b,
        hostStep a s = { s with setupLatch := b, setupRd := 0, flagSetup := true, answers := got }) ∨
      (s.ep0Enabled = true ∧ (∃ p, s.ep0In = some p) ∧
        hostStep a s = { s with ep0In := none, flagIn0 := true, answers := got }) ∨
      (s.ep0Enabled = true ∧ ∃ d,
        hostStep a s = { s with out0Latch := d, flagOut0 := true, answers := got }) ∨
      (s.ep1Active = true ∧ ∃ r rest, s.ep1Banks = r :: rest ∧
        hostStep a s = { s with ep1Banks := rest, answers := got }) := by
  refine ⟨(hostStep a s).answers, ?_⟩
  cases a with
  | reset =>
    simp only [hostStep, busAction, hostReset]
    split
    · exact .inr (.inl ⟨by assumption, rfl⟩)
    · exact .inl rfl
  | setup a b =>
    simp only [hostStep, busAction, hostSetup]
    split
    · rename_i h
      split
      · exact .inr (.inr (.inl ⟨by simp_all, _, rfl⟩))
      · exact .inl rfl
    · exact .inl rfl
  | inToken a e =>
    simp only [hostStep, busAction]
    split
    · simp only [hostIn0]
      split
      · exact .inl rfl
      rename_i h
      split
      · exact .inl rfl
      split
      · exact .inl rfl
      split
      · exact .inr (.inr (.inr (.inl ⟨by simp_all, ⟨_, by assumption⟩, rfl⟩)))
      · exact .inl rfl
    · split
      · simp only [hostIn1]
        split
        · exact .inl rfl
        rename_i h
        split
        · exact .inr (.inr (.inr (.inr (.inr ⟨by simp_all, _, _, by assumption, rfl⟩))))
        · exact .inl rfl
      · exact .inl rfl
  | outPacket a e d =>
    simp only [hostStep, busAction]
    split
    · simp only [hostOut0]
      split
      · exact .inl rfl
      rename_i h
      split
      · exact .inl rfl
      split
      · exact .inl rfl
      split
      · exact .inl rfl
      · exact .inr (.inr (.inr (.inr (.inl ⟨by simp_all, _, rfl⟩))))
    · exact .inl rfl

end Sys2Proof.Machine
end

