-- ==== Sys2Proof/Laws/PerInstr.lean ====
section
/-! SUPPORT. The per-instruction family EncodeLength: an instruction's encoding has the length its format says
(30_encoding.md R64, R69). -/

namespace Sys2Proof.Laws.EncodeLength

/-- The encoding of `i` has the length of its format: one byte for an event word, eight for a SETUP packet. -/
def Statement (i : Instr) : Prop := (encode i).length = i.byteLength

theorem getStatusDevice (a : SetupArgs) : Statement (.getStatusDevice a) := rfl
theorem clearFeatureDevice (a : SetupArgs) : Statement (.clearFeatureDevice a) := rfl
theorem setFeatureDevice (a : SetupArgs) : Statement (.setFeatureDevice a) := rfl
theorem setAddress (a : SetupArgs) : Statement (.setAddress a) := rfl
theorem getDescriptorDevice (a : SetupArgs) : Statement (.getDescriptorDevice a) := rfl
theorem setDescriptor (a : SetupArgs) : Statement (.setDescriptor a) := rfl
theorem getConfiguration (a : SetupArgs) : Statement (.getConfiguration a) := rfl
theorem setConfigurationDevice (a : SetupArgs) : Statement (.setConfigurationDevice a) := rfl
theorem getStatusInterface (a : SetupArgs) : Statement (.getStatusInterface a) := rfl
theorem clearFeatureInterface (a : SetupArgs) : Statement (.clearFeatureInterface a) := rfl
theorem setFeatureInterface (a : SetupArgs) : Statement (.setFeatureInterface a) := rfl
theorem getDescriptorInterface (a : SetupArgs) : Statement (.getDescriptorInterface a) := rfl
theorem setConfigurationInterface (a : SetupArgs) : Statement (.setConfigurationInterface a) := rfl
theorem getInterface (a : SetupArgs) : Statement (.getInterface a) := rfl
theorem setInterface (a : SetupArgs) : Statement (.setInterface a) := rfl
theorem synchFrameInterface (a : SetupArgs) : Statement (.synchFrameInterface a) := rfl
theorem getStatusEndpoint (a : SetupArgs) : Statement (.getStatusEndpoint a) := rfl
theorem clearFeatureEndpoint (a : SetupArgs) : Statement (.clearFeatureEndpoint a) := rfl
theorem setFeatureEndpoint (a : SetupArgs) : Statement (.setFeatureEndpoint a) := rfl
theorem synchFrameEndpoint (a : SetupArgs) : Statement (.synchFrameEndpoint a) := rfl
theorem getReport (a : SetupArgs) : Statement (.getReport a) := rfl
theorem getIdle (a : SetupArgs) : Statement (.getIdle a) := rfl
theorem getProtocol (a : SetupArgs) : Statement (.getProtocol a) := rfl
theorem setReport (a : SetupArgs) : Statement (.setReport a) := rfl
theorem setIdle (a : SetupArgs) : Statement (.setIdle a) := rfl
theorem setProtocol (a : SetupArgs) : Statement (.setProtocol a) := rfl
theorem unrecognized (t r : Byte) (a : SetupArgs) : Statement (.unrecognized t r a) := rfl
theorem powerOn : Statement .powerOn := rfl
theorem busReset : Statement .busReset := rfl
theorem setupReceived : Statement .setupReceived := rfl
theorem inReady0 : Statement .inReady0 := rfl
theorem inReady1 : Statement .inReady1 := rfl
theorem outReceived0 : Statement .outReceived0 := rfl

end Sys2Proof.Laws.EncodeLength
end

