-- ==== Sys2Proof/Laws/Run.lean ====
section
/-! SUPPORT. A run, one step at a time. -/

namespace Sys2Proof.Machine

/-- A run of no step. -/
theorem run_zero (s : State) : Sys2Proof.core.run 0 s = .next s := rfl

/-- A run whose first step answers a next state goes on from it. -/
theorem run_succ {n : Nat} {s t : State} (h : step s = .next t) :
    Sys2Proof.core.run (n + 1) s = Sys2Proof.core.run n t := by
  have key : ∀ (M : Host.Core) (a b : M.State), M.step a = .next b → M.run (n + 1) a = M.run n b := by
    intro M a b hb
    have hr : M.run (n + 1) a =
        match M.step a with
        | .next u => M.run n u
        | .fault r => .fault r
        | .refused r => .refused r := rfl
    rw [hr, hb]
  exact key Sys2Proof.core s t h

/-- A run that answers a state after `n + 1` steps took a first step. -/
theorem run_succ_inv {n : Nat} {s t : State} (h : Sys2Proof.core.run (n + 1) s = .next t) :
    ∃ u, step s = .next u ∧ Sys2Proof.core.run n u = .next t := by
  have key : ∀ (M : Host.Core) (a b : M.State), M.run (n + 1) a = .next b →
      ∃ u, M.step a = .next u ∧ M.run n u = .next b := by
    intro M a b hb
    have hr : M.run (n + 1) a =
        match M.step a with
        | .next u => M.run n u
        | .fault r => .fault r
        | .refused r => .refused r := rfl
    rw [hr] at hb
    split at hb
    · exact ⟨_, by assumption, hb⟩
    · cases hb
    · cases hb
  exact key Sys2Proof.core s t h

end Sys2Proof.Machine
end

