-- ==== Sys2Proof/Laws/Step.lean ====
section
/-! SUPPORT. What one step can be, said once. -/

namespace Sys2Proof.Machine

/-- A step that answers a next state ran one instruction, or passed. -/
theorem step_cases {s t : State} (h : step s = .next t) :
    (∃ i s', nextTurn s = .run i s' ∧ exec i s' = .next t) ∨ nextTurn s = .pass t := by
  unfold step at h
  cases hn : nextTurn s with
  | run i s' => exact .inl ⟨i, s', rfl, by simpa [hn] using h⟩
  | pass u => exact .inr (by simpa [hn] using h)
  | stuck f => simp [hn] at h
  | refuse r => simp [hn] at h

/-- A step that runs an instruction is its meaning. -/
theorem step_run {s s' : State} {i : Instr} (h : nextTurn s = .run i s') : step s = exec i s' := by
  simp [step, h]

/-- A step that passes. -/
theorem step_pass {s t : State} (h : nextTurn s = .pass t) : step s = .next t := by
  simp [step, h]

/-- A host action among the inputs. -/
theorem nextTurn_host {s : State} {a : HostAction} {rest : List Input} (ha : s.attached = true)
    (hi : s.inputs = .host a :: rest) : nextTurn s = .pass (hostStep a { s with inputs := rest }) := by
  rw [nextTurn, if_neg (by simp [ha])]
  simp only [hi]

/-- An engine turn among the inputs. -/
theorem nextTurn_engine {s : State} {rest : List Input} (ha : s.attached = true)
    (hi : s.inputs = .engine :: rest) : nextTurn s = engineTurn { s with inputs := rest } := by
  rw [nextTurn, if_neg (by simp [ha])]
  simp only [hi]

/-- A sample setting among the inputs. -/
theorem nextTurn_sample {s : State} {d : Option Snapshot} {rest : List Input} (ha : s.attached = true)
    (hi : s.inputs = .sample d :: rest) : nextTurn s = .pass { s with inputs := rest, sampler := d } := by
  rw [nextTurn, if_neg (by simp [ha])]
  simp only [hi]

/-- An injected event word among the inputs. -/
theorem nextTurn_event {s : State} {w : Byte} {rest : List Input} (ha : s.attached = true)
    (hi : s.inputs = .event w :: rest) : nextTurn s = injectedTurn w { s with inputs := rest } := by
  rw [nextTurn, if_neg (by simp [ha])]
  simp only [hi]

/-- No input left: the engine moves, or is stuck. -/
theorem nextTurn_alone {s : State} (ha : s.attached = true) (hi : s.inputs = []) :
    nextTurn s = if s.halted then .stuck (.halted s.faultCause) else engineTurn s := by
  rw [nextTurn, if_neg (by simp [ha])]
  simp only [hi]

/-- Before power-on a step is POWER_ON. -/
theorem nextTurn_unattached {s : State} (h : s.attached = false) : nextTurn s = .run .powerOn s := by
  simp [nextTurn, h]

/-- An engine turn runs the pending event or passes. -/
theorem engineTurn_cases (s : State) :
    (∃ i, pendingEvent s = some i ∧ engineTurn s = .run i s) ∨
      (pendingEvent s = none ∧ engineTurn s = .pass s) := by
  unfold engineTurn
  cases hp : pendingEvent s with
  | some i => exact .inl ⟨i, rfl, rfl⟩
  | none => exact .inr ⟨rfl, rfl⟩

/-- The event serviced, with the condition it is pending by. -/
theorem pendingEvent_cases {s : State} {i : Instr} (h : pendingEvent s = some i) :
    s.halted = false ∧
    ((i = .busReset ∧ s.flagBusReset = true) ∨
     (i = .setupReceived ∧ s.flagBusReset = false ∧ s.flagSetup = true ∧ s.ep0Enabled = true) ∨
     (i = .outReceived0 ∧ s.flagBusReset = false ∧ s.flagOut0 = true) ∨
     (i = .inReady0 ∧ s.flagBusReset = false ∧ s.flagOut0 = false ∧ s.flagIn0 = true) ∨
     (i = .inReady1 ∧ s.flagBusReset = false ∧ s.ctlStage = .idle ∧ ep1BankFree s = true)) := by
  unfold pendingEvent at h
  split_ifs at h <;> simp_all

end Sys2Proof.Machine
end

