-- ==== Sys2Proof/Machine/Script.lean ====
section
/-! DEFINITION. Scripts: host actions one a line, the engine run to quiescence after each (30_encoding.md R70).
A script starts after POWER_ON. -/

namespace Sys2Proof.Machine

/-- One host-action line; `draw` is its `sample =` setting, `none` where it has none. -/
structure ScriptLine where
  action : HostAction
  draw : Option Snapshot := none
deriving DecidableEq, Repr

/-- Engine turns that bring a resting engine back to rest after one host action: OUT, IN, then one turn a bank
of endpoint 1 (40_enumeration.md R73). A turn with nothing pending is no step. -/
def restTurns (p : Params) : Nat := 2 + p.ep1Banks

/-- The inputs a line stands for. -/
def ScriptLine.inputs (l : ScriptLine) (p : Params) : List Input :=
  [.sample l.draw, .host l.action] ++ List.replicate (restTurns p) .engine

/-- Run a line. -/
def runLine (l : ScriptLine) (s : State) : Out :=
  Sys2Proof.core.run (l.inputs s.params).length { s with inputs := l.inputs s.params }

/-- Run lines in order, stopping where the machine stops. -/
def runLines : List ScriptLine → State → Out
  | [], s => .next s
  | l :: rest, s =>
    match runLine l s with
    | .next t => runLines rest t
    | .fault f => .fault f
    | .refused r => .refused r

/-- The SETUP packet of a pseudo-instruction: key, wValue bytes, wIndex low byte, and wLength little-endian. -/
def setupLine (a : UsbAddr) (t r vl vh il : Byte) (w : Word) : HostAction :=
  .setup a [t, r, vl, vh, il, 0x00, lowByte w, highByte w]

/-- `GET_STATUS_DEV @a w` -/
def getStatusDevLine (a : UsbAddr) (w : Word) : HostAction := setupLine a 0x80 0x00 0x00 0x00 0x00 w

/-- `GET_DESCRIPTOR @a t w` -/
def getDescriptorLine (a : UsbAddr) (t : Byte) (w : Word) : HostAction := setupLine a 0x80 0x06 0x00 t 0x00 w

/-- `SET_ADDRESS @a n` -/
def setAddressLine (a : UsbAddr) (n : Byte) : HostAction := setupLine a 0x00 0x05 n 0x00 0x00 0

/-- `GET_CONFIGURATION @a w` -/
def getConfigurationLine (a : UsbAddr) (w : Word) : HostAction := setupLine a 0x80 0x08 0x00 0x00 0x00 w

/-- `SET_CONFIGURATION @a v` -/
def setConfigurationLine (a : UsbAddr) (v : Byte) : HostAction := setupLine a 0x00 0x09 v 0x00 0x00 0

/-- `GET_INTERFACE @a w` -/
def getInterfaceLine (a : UsbAddr) (w : Word) : HostAction := setupLine a 0x81 0x0A 0x00 0x00 0x00 w

/-- `SET_INTERFACE @a v` -/
def setInterfaceLine (a : UsbAddr) (v : Byte) : HostAction := setupLine a 0x01 0x0B v 0x00 0x00 0

/-- `GET_STATUS_EP @a ep w` -/
def getStatusEpLine (a : UsbAddr) (ep : Byte) (w : Word) : HostAction := setupLine a 0x82 0x00 0x00 0x00 ep w

/-- `GET_REPORT @a w` -/
def getReportLine (a : UsbAddr) (w : Word) : HostAction := setupLine a 0xA1 0x01 0x00 0x01 0x00 w

/-- `GET_IDLE @a w` -/
def getIdleLine (a : UsbAddr) (w : Word) : HostAction := setupLine a 0xA1 0x02 0x00 0x00 0x00 w

/-- `SET_IDLE @a r` -/
def setIdleLine (a : UsbAddr) (r : Byte) : HostAction := setupLine a 0x21 0x0A 0x00 r 0x00 0

/-- `CONTROL_NODATA @a <setup>`; the sample setting applies to the SETUP line. -/
def controlNoData (a : UsbAddr) (bytes : List Byte) (draw : Option Snapshot) : List ScriptLine :=
  [{ action := .setup a bytes, draw := draw }, { action := .inToken a 0 }]

/-- `IN @a 0` until the host has `want` bytes or a packet shorter than P_EP0_SIZE, then `OUT @a 0 []`. An answer
that is no data ends the lines. -/
def readRest (a : UsbAddr) (want : Nat) : Nat → Nat → State → Out
  | 0, _, s => .next s
  | fuel + 1, got, s =>
    match runLine { action := .inToken a 0 } s with
    | .next t =>
      match t.answers.getLast? with
      | some (.data p) =>
        if p.length < t.params.ep0Size || want ≤ got + p.length then
          runLine { action := .outPacket a 0 [] } t
        else readRest a want fuel (got + p.length) t
      | _ => .next t
    | .fault f => .fault f
    | .refused r => .refused r

/-- `CONTROL_READ @a <setup>` for a request that asks for `want` bytes (its wLength). -/
def controlRead (a : UsbAddr) (bytes : List Byte) (want : Nat) (draw : Option Snapshot) (s : State) : Out :=
  if want = 0 then runLines (controlNoData a bytes draw) s
  else
    match runLine { action := .setup a bytes, draw := draw } s with
    | .next t => readRest a want want 0 t
    | .fault f => .fault f
    | .refused r => .refused r

end Sys2Proof.Machine
end

