-- ==== Sys2Proof/Tests/Slice0.lean ====
section
/-! SUPPORT. The model's own tests: words written out from the spec's encodings, one step on small states with the
results 95_test_vectors.md and the rules' own examples give, and a witness for the hypotheses of each
statement. -/

namespace Sys2Proof.Tests
open Sys2Proof.Machine Sys2Proof.Expect

/-- Zero operand fields. -/
def noArgs : SetupArgs := ⟨0x0000, 0x0000, 0x0000⟩

/-- The device after POWER_ON. -/
def powered : State :=
  { State.reset with
    padEnabled := true, usbEnabled := true, attached := true, busIntEnabled := true, comIntEnabled := true }

/-- "Device at DEFAULT" (95_test_vectors.md section 0). -/
def atDefault : State := { powered with devState := .default, ep0Enabled := true }

/-- "Device at ADDRESSED(5)". -/
def addressed5 : State := { atDefault with devState := .addressed, address := 5 }

/-- "Device at CONFIGURED(5)". -/
def configured5 : State :=
  { addressed5 with
    devState := .configured, configuration := 1, ep1Active := true, ep1Banks := [⟨0x08, 0x00, 0x00⟩] }

/-- With a SETUP packet latched. -/
def withSetup (b : Vector Byte 8) (s : State) : State :=
  { s with setupLatch := b, setupRd := 0, flagSetup := true }

/-- The state a step or an instruction answers. -/
def next? : Out → Option State
  | .next s => some s
  | .fault _ => none
  | .refused _ => none

/-- What a step left in one field. -/
def stepField {α : Type} (f : State → α) (s : State) : Option α := (next? (step s)).map f

/-- After the SETUP packet `b` is serviced: control stage, EP_STATUS[1], the armed packet. -/
def served (b : Vector Byte 8) (s : State) : Option (CtlStage × Bool × Option (List Byte)) :=
  stepField (fun t => (t.ctlStage, t.ep0Stall, t.ep0In)) (withSetup b s)

/-! ## Well-formedness -/

/-- A row-27 request with a key of the dispatch map is refused. -/
theorem test_wf_refuses_a_recognized_key : (Instr.unrecognized 0x80 0x00 noArgs).wf = false := by decide

theorem test_wf_accepts_a_vendor_key : (Instr.unrecognized 0xC0 0x01 noArgs).wf = true := by decide

/-! ## Encodings (30_encoding.md R58, R62, R69; 95_test_vectors.md section 2.1) -/

theorem test_decode_device_rows :
    decode [0x80, 0x00, 0x00, 0x00, 0x00, 0x00, 0x02, 0x00]
      = .instr (.getStatusDevice ⟨0x0000, 0x0000, 0x0002⟩) ∧
    decode [0x00, 0x01, 0x01, 0x00, 0x00, 0x00, 0x00, 0x00]
      = .instr (.clearFeatureDevice ⟨0x0001, 0x0000, 0x0000⟩) ∧
    decode [0x00, 0x03, 0x01, 0x00, 0x00, 0x00, 0x00, 0x00]
      = .instr (.setFeatureDevice ⟨0x0001, 0x0000, 0x0000⟩) ∧
    decode [0x00, 0x05, 0x05, 0x00, 0x00, 0x00, 0x00, 0x00]
      = .instr (.setAddress ⟨0x0005, 0x0000, 0x0000⟩) ∧
    decode [0x80, 0x06, 0x00, 0x01, 0x09, 0x04, 0x12, 0x00]
      = .instr (.getDescriptorDevice ⟨0x0100, 0x0409, 0x0012⟩) ∧
    decode [0x00, 0x07, 0x00, 0x01, 0x00, 0x00, 0x12, 0x00]
      = .instr (.setDescriptor ⟨0x0100, 0x0000, 0x0012⟩) ∧
    decode [0x80, 0x08, 0x00, 0x00, 0x00, 0x00, 0x01, 0x00]
      = .instr (.getConfiguration ⟨0x0000, 0x0000, 0x0001⟩) ∧
    decode [0x00, 0x09, 0x01, 0x00, 0x00, 0x00, 0x00, 0x00]
      = .instr (.setConfigurationDevice ⟨0x0001, 0x0000, 0x0000⟩) := by decide

theorem test_decode_interface_rows :
    decode [0x81, 0x00, 0x00, 0x00, 0x00, 0x00, 0x02, 0x00]
      = .instr (.getStatusInterface ⟨0x0000, 0x0000, 0x0002⟩) ∧
    decode [0x01, 0x01, 0x00, 0x00, 0x00, 0x00, 0x00, 0x00] = .instr (.clearFeatureInterface noArgs) ∧
    decode [0x01, 0x03, 0x00, 0x00, 0x00, 0x00, 0x00, 0x00] = .instr (.setFeatureInterface noArgs) ∧
    decode [0x81, 0x06, 0x00, 0x22, 0x00, 0x00, 0x38, 0x00]
      = .instr (.getDescriptorInterface ⟨0x2200, 0x0000, 0x0038⟩) ∧
    decode [0x01, 0x09, 0x00, 0x00, 0x00, 0x00, 0x00, 0x00] = .instr (.setConfigurationInterface noArgs) ∧
    decode [0x81, 0x0A, 0x00, 0x00, 0x00, 0x00, 0x01, 0x00]
      = .instr (.getInterface ⟨0x0000, 0x0000, 0x0001⟩) ∧
    decode [0x01, 0x0B, 0x01, 0x00, 0x00, 0x00, 0x00, 0x00]
      = .instr (.setInterface ⟨0x0001, 0x0000, 0x0000⟩) ∧
    decode [0x81, 0x0C, 0x00, 0x00, 0x00, 0x00, 0x02, 0x00]
      = .instr (.synchFrameInterface ⟨0x0000, 0x0000, 0x0002⟩) := by decide

theorem test_decode_endpoint_rows :
    decode [0x82, 0x00, 0x00, 0x00, 0x81, 0x00, 0x02, 0x00]
      = .instr (.getStatusEndpoint ⟨0x0000, 0x0081, 0x0002⟩) ∧
    decode [0x02, 0x01, 0x00, 0x00, 0x81, 0x00, 0x00, 0x00]
      = .instr (.clearFeatureEndpoint ⟨0x0000, 0x0081, 0x0000⟩) ∧
    decode [0x02, 0x03, 0x00, 0x00, 0x81, 0x00, 0x00, 0x00]
      = .instr (.setFeatureEndpoint ⟨0x0000, 0x0081, 0x0000⟩) ∧
    decode [0x82, 0x0C, 0x00, 0x00, 0x81, 0x00, 0x02, 0x00]
      = .instr (.synchFrameEndpoint ⟨0x0000, 0x0081, 0x0002⟩) := by decide

theorem test_decode_class_rows :
    decode [0xA1, 0x01, 0x00, 0x01, 0x00, 0x00, 0x03, 0x00]
      = .instr (.getReport ⟨0x0100, 0x0000, 0x0003⟩) ∧
    decode [0xA1, 0x02, 0x00, 0x00, 0x00, 0x00, 0x01, 0x00]
      = .instr (.getIdle ⟨0x0000, 0x0000, 0x0001⟩) ∧
    decode [0xA1, 0x03, 0x00, 0x00, 0x00, 0x00, 0x01, 0x00]
      = .instr (.getProtocol ⟨0x0000, 0x0000, 0x0001⟩) ∧
    decode [0x21, 0x09, 0x00, 0x02, 0x00, 0x00, 0x01, 0x00]
      = .instr (.setReport ⟨0x0200, 0x0000, 0x0001⟩) ∧
    decode [0x21, 0x0A, 0x00, 0x0A, 0x00, 0x00, 0x00, 0x00]
      = .instr (.setIdle ⟨0x0A00, 0x0000, 0x0000⟩) ∧
    decode [0x21, 0x0B, 0x00, 0x00, 0x00, 0x00, 0x00, 0x00] = .instr (.setProtocol noArgs) := by decide

theorem test_decode_row_27_and_lengths :
    decode [0xC0, 0x01, 0x00, 0x00, 0x00, 0x00, 0x04, 0x00]
      = .instr (.unrecognized 0xC0 0x01 ⟨0x0000, 0x0000, 0x0004⟩) ∧
    decode [0x80, 0x05, 0x05, 0x00, 0x00, 0x00, 0x00, 0x00]
      = .instr (.unrecognized 0x80 0x05 ⟨0x0005, 0x0000, 0x0000⟩) ∧
    decode [] = .rejected (.badLength 0) ∧ decode [0x80, 0x00] = .rejected (.badLength 2) := by decide

theorem test_decode_events :
    decode [0x00] = .instr .powerOn ∧ decode [0x10] = .instr .busReset ∧
    decode [0x20] = .instr .setupReceived ∧ decode [0x30] = .instr .inReady0 ∧
    decode [0x31] = .instr .inReady1 ∧ decode [0x40] = .instr .outReceived0 ∧
    decode [0x41] = .rejected (.unknownEvent 0x41) ∧ decode [0x01] = .rejected (.unknownEvent 0x01) := by decide

/-- The opcode table's numbering: `0x8006` is bmRequestType 0x80, bRequest 0x06; the third byte is the low byte of
wValue; an event row has 8 bits. -/
theorem test_table_words :
    decodeTableWord 16 0x8006 = some (.getDescriptorDevice noArgs) ∧
    decodeTableWord 64 0x0012000001008006 = some (.getDescriptorDevice ⟨0x0100, 0x0000, 0x0012⟩) ∧
    decodeTableWord 16 0xC001 = some (.unrecognized 0xC0 0x01 noArgs) ∧
    decodeTableWord 8 0x31 = some .inReady1 ∧ decodeTableWord 8 0x41 = none := by decide

/-! ## One step each (the rules' examples) -/

/-- 70_reset_and_hazards.md R138: after PowerOn, EP_STATUS 0x00 and LAST_REPORT 08 00 00. -/
theorem test_power_on :
    stepField (fun s => (s.devState, s.address, readReg .epStatus s, s.lastReport, s.attached)) State.reset
      = some (.powered, 0, 0x00, ⟨0x08, 0x00, 0x00⟩, true) := by decide

/-- 92_eei_decisions.md D35: the reference parameters meet the constraints. -/
theorem test_reference_is_admitted : rejection Params.reference = none := by decide

/-- REF_DESC's report descriptor with other items for its ten buttons, Report Size and Count included. -/
def buttonsAs (items : List Byte) : List Byte := refReport.take 33 ++ items ++ refReport.drop 49

/-- 20_memory.md R55: other items that describe the report of 30_encoding.md R66. The buttons split 8 and 2; each
usage listed; extended usages; globals pushed and popped; a collection nested in the application collection. -/
theorem test_report_forms_admitted :
    reportDescriptorOk (buttonsAs ([0x05, 0x09, 0x19, 0x01, 0x29, 0x08, 0x15, 0x00, 0x25, 0x01, 0x75, 0x01] ++
      [0x95, 0x08, 0x81, 0x02, 0x19, 0x09, 0x29, 0x0A, 0x95, 0x02, 0x81, 0x02])) = true ∧
    reportDescriptorOk (buttonsAs ([0x05, 0x09, 0x09, 0x01, 0x09, 0x02, 0x09, 0x03, 0x09, 0x04, 0x09, 0x05] ++
      [0x19, 0x06, 0x29, 0x0A, 0x15, 0x00, 0x25, 0x01, 0x75, 0x01, 0x95, 0x0A, 0x81, 0x02])) = true ∧
    reportDescriptorOk (buttonsAs ([0x1B, 0x01, 0x00, 0x09, 0x00, 0x2B, 0x0A, 0x00, 0x09, 0x00, 0x25, 0x01] ++
      [0x75, 0x01, 0x95, 0x0A, 0x81, 0x02])) = true ∧
    reportDescriptorOk (buttonsAs ([0xA4, 0x05, 0x09, 0x19, 0x01, 0x29, 0x0A, 0x25, 0x01, 0x75, 0x01, 0x95] ++
      [0x0A, 0x81, 0x02, 0xB4])) = true ∧
    reportDescriptorOk (refReport.take 6 ++ [0xA1, 0x00] ++ refReport.drop 6 ++ [0xC0]) = true := by decide

/-- 20_memory.md R55, 30_encoding.md R66: items that describe another report. Buttons 11 to 20; ten bits with no
usage; ten bits of button 1; values 0 to 0; a report id; a second application collection. -/
theorem test_other_reports_refused :
    reportDescriptorOk (buttonsAs ([0x05, 0x09, 0x19, 0x0B, 0x29, 0x14, 0x25, 0x01, 0x75, 0x01] ++
      [0x95, 0x0A, 0x81, 0x02])) = false ∧
    reportDescriptorOk (buttonsAs ([0x05, 0x09, 0x25, 0x01, 0x75, 0x01, 0x95, 0x0A, 0x81, 0x02])) = false ∧
    reportDescriptorOk (buttonsAs ([0x05, 0x09, 0x09, 0x01, 0x25, 0x01, 0x75, 0x01] ++
      [0x95, 0x0A, 0x81, 0x02])) = false ∧
    reportDescriptorOk (buttonsAs ([0x05, 0x09, 0x19, 0x01, 0x29, 0x0A, 0x25, 0x00, 0x75, 0x01] ++
      [0x95, 0x0A, 0x81, 0x02])) = false ∧
    reportDescriptorOk (refReport.take 6 ++ [0x85, 0x01] ++ refReport.drop 6) = false ∧
    reportDescriptorOk (refReport ++ [0xA1, 0x01, 0xC0]) = false := by decide

/-- 20_memory.md R55: a hat whose Input flags are not data, variable, absolute and null alone. Nonlinear; wrap; no
preferred state; no null state; a reserved bit. -/
theorem test_other_hat_flags_refused :
    refReport[24]? = some 0x42 ∧
    [(0x52 : Byte), 0x4A, 0x62, 0x02, 0xC2].all (fun f => !reportDescriptorOk (refReport.set 24 f)) = true := by decide

/-- 20_memory.md R54 (5): a String Index item in the report descriptor. -/
theorem test_string_items_refused :
    stringIndicesOk { refDesc with report := refReport.take 6 ++ [0x79, 0x04] ++ refReport.drop 6 } = false ∧
    stringIndicesOk { refDesc with report := refReport.take 6 ++ [0x79, 0x00] ++ refReport.drop 6 } = true := by decide

/-- CONFIGURED at 5, in a data stage, one report banked, a bus reset pending. -/
def resetPending : State :=
  { configured5 with flagBusReset := true, ctlStage := .dataIn, ep0In := some [0x12] }

/-- 40_enumeration.md R75's example. -/
theorem test_bus_reset :
    stepField (fun s => (s.devState, s.address, s.configuration)) resetPending = some (.default, 0, 0) ∧
    stepField (fun s => (s.ctlStage, readReg .epStatus s, s.ep1Banks)) resetPending
      = some (.idle, 0x01, []) := by decide

/-- 40_enumeration.md R75: IDLE_RATE and LAST_REPORT stay; a rejected configuration is H1, FAULT 0b011. -/
theorem test_bus_reset_rejected :
    stepField (fun s => (s.idleRate, s.lastReport, readReg .fault s, readReg .epStatus s))
        { configured5 with
          flagBusReset := true, idleRate := 7, lastReport := ⟨0x01, 0x02, 0x03⟩,
          params := { Params.reference with cfgRejected := [⟨.ep0, .control, .control, 8, 1⟩] } }
      = some (7, ⟨0x01, 0x02, 0x03⟩, 0b011, 0x00) := by decide

/-- 41_control_transfer.md R78's example: the first 8 bytes of the device descriptor armed. -/
theorem test_get_descriptor_device :
    served #v[0x80, 0x06, 0x00, 0x01, 0x00, 0x00, 0x12, 0x00] atDefault
      = some (.dataIn, false, some [0x12, 0x01, 0x00, 0x02, 0x00, 0x00, 0x00, 0x08]) := by decide

/-- 42_std_device.md R92: a string descriptor stalls. -/
theorem test_get_descriptor_string :
    served #v[0x80, 0x06, 0x00, 0x03, 0x00, 0x00, 0xFF, 0x00] atDefault = some (.idle, true, none) := by decide

/-- 42_std_device.md R88: wLength 1 sends one byte, wLength 0 no data stage. -/
theorem test_get_status_device :
    served #v[0x80, 0x00, 0x00, 0x00, 0x00, 0x00, 0x01, 0x00] atDefault = some (.dataIn, false, some [0x00]) ∧
    served #v[0x80, 0x00, 0x00, 0x00, 0x00, 0x00, 0x00, 0x00] atDefault
      = some (.statusIn, false, some []) := by decide

/-- The requests that always stall (the examples of R89, R90, R93, R98, R99, R104, R106 to R108, R111, R112, R114
and R85). -/
theorem test_always_stalled :
    [#v[0x00, 0x01, 0x01, 0x00, 0x00, 0x00, 0x00, 0x00], #v[0x00, 0x03, 0x01, 0x00, 0x00, 0x00, 0x00, 0x00],
     #v[0x00, 0x07, 0x00, 0x01, 0x00, 0x00, 0x12, 0x00], #v[0x01, 0x01, 0x00, 0x00, 0x00, 0x00, 0x00, 0x00],
     #v[0x01, 0x03, 0x00, 0x00, 0x00, 0x00, 0x00, 0x00], #v[0x81, 0x0C, 0x00, 0x00, 0x00, 0x00, 0x02, 0x00],
     #v[0x02, 0x01, 0x00, 0x00, 0x81, 0x00, 0x00, 0x00], #v[0x02, 0x03, 0x00, 0x00, 0x81, 0x00, 0x00, 0x00],
     #v[0x82, 0x0C, 0x00, 0x00, 0x81, 0x00, 0x02, 0x00], #v[0xA1, 0x03, 0x00, 0x00, 0x00, 0x00, 0x01, 0x00],
     #v[0x21, 0x09, 0x00, 0x02, 0x00, 0x00, 0x01, 0x00], #v[0x21, 0x0B, 0x00, 0x00, 0x00, 0x00, 0x00, 0x00],
     #v[0xC0, 0x01, 0x00, 0x00, 0x00, 0x00, 0x04, 0x00]].all
      (fun b => served b configured5 == some (.idle, true, none)) = true := by decide

/-- 42_std_device.md R91: ADDRESS still 0, CTL_PADDR 5, CTL_FLAGS 0x02; address 0 pends nothing. -/
theorem test_set_address :
    stepField (fun s => (s.address, s.ctlPaddr, readReg .ctlFlags s, s.devState))
        (withSetup #v[0x00, 0x05, 0x05, 0x00, 0x00, 0x00, 0x00, 0x00] atDefault) = some (0, 5, 0x02, .default) ∧
    stepField (fun s => (s.ctlStage, readReg .ctlFlags s))
        (withSetup #v[0x00, 0x05, 0x80, 0x00, 0x00, 0x00, 0x00, 0x00] atDefault)
      = some (.statusIn, 0x00) := by decide

/-- 42_std_device.md R94's example. -/
theorem test_get_configuration :
    served #v[0x80, 0x08, 0x00, 0x00, 0x00, 0x00, 0x01, 0x00] configured5
      = some (.dataIn, false, some [0x01]) := by decide

/-- 42_std_device.md R95: the example; value 0 deactivates; in DEFAULT a STALL. -/
theorem test_set_configuration :
    stepField (fun s => (s.devState, s.configuration, readReg .epStatus s, s.ctlStage))
        (withSetup #v[0x00, 0x09, 0x01, 0x00, 0x00, 0x00, 0x00, 0x00] addressed5)
      = some (.configured, 1, 0x05, .statusIn) ∧
    stepField (fun s => (s.devState, s.configuration, readReg .epStatus s, s.ep1Banks))
        (withSetup #v[0x00, 0x09, 0x00, 0x01, 0x00, 0x00, 0x00, 0x00] configured5)
      = some (.addressed, 0, 0x01, []) ∧
    served #v[0x00, 0x09, 0x01, 0x00, 0x00, 0x00, 0x00, 0x00] atDefault = some (.idle, true, none) := by decide

/-- 42_std_device.md R95: a rejected configuration is H2, FAULT 0b101, the registers as they were. -/
theorem test_set_configuration_rejected :
    stepField (fun s => (s.devState, s.configuration, readReg .fault s, s.ep0In))
        (withSetup #v[0x00, 0x09, 0x01, 0x00, 0x00, 0x00, 0x00, 0x00]
          { addressed5 with
            params := { Params.reference with cfgRejected := [⟨.ep1, .input, .interrupt, 8, 1⟩] } })
      = some (.addressed, 0, 0b101, none) := by decide

/-- 43_std_interface_endpoint.md R97: an index other than 0 stalls. -/
theorem test_get_status_interface :
    served #v[0x81, 0x00, 0x00, 0x00, 0x00, 0x00, 0x02, 0x00] configured5
      = some (.dataIn, false, some [0x00, 0x00]) ∧
    served #v[0x81, 0x00, 0x00, 0x00, 0x01, 0x00, 0x02, 0x00] configured5 = some (.idle, true, none) := by decide

/-- 43_std_interface_endpoint.md R102: all 16 bits of the index count. -/
theorem test_get_interface :
    served #v[0x81, 0x0A, 0x00, 0x00, 0x00, 0x00, 0x01, 0x00] configured5
      = some (.dataIn, false, some [0x00]) ∧
    served #v[0x81, 0x0A, 0x00, 0x00, 0x00, 0x01, 0x01, 0x00] configured5 = some (.idle, true, none) := by decide

/-- 43_std_interface_endpoint.md R101: only value 0. -/
theorem test_set_configuration_interface :
    served #v[0x01, 0x09, 0x00, 0x00, 0x00, 0x00, 0x00, 0x00] configured5 = some (.statusIn, false, some []) ∧
    served #v[0x01, 0x09, 0x01, 0x00, 0x00, 0x00, 0x00, 0x00] configured5 = some (.idle, true, none) := by decide

/-- 43_std_interface_endpoint.md R103: only value 0, all 16 bits of it. -/
theorem test_set_interface :
    served #v[0x01, 0x0B, 0x00, 0x00, 0x00, 0x00, 0x00, 0x00] configured5 = some (.statusIn, false, some []) ∧
    served #v[0x01, 0x0B, 0x00, 0x01, 0x00, 0x00, 0x00, 0x00] configured5 = some (.idle, true, none) := by decide

/-- 43_std_interface_endpoint.md R100: refused or served as the parameter says. -/
theorem test_get_descriptor_interface :
    served #v[0x81, 0x06, 0x00, 0x22, 0x00, 0x00, 0x38, 0x00] configured5 = some (.idle, true, none) ∧
    served #v[0x81, 0x06, 0x00, 0x22, 0x00, 0x00, 0x38, 0x00]
        { configured5 with params := { Params.reference with ifaceGetDescriptor := .serve } }
      = some (.dataIn, false, some [0x05, 0x01, 0x09, 0x05, 0xA1, 0x01, 0x09, 0x39]) := by decide

/-- 43_std_interface_endpoint.md R105: 0x0000, 0x0080 and 0x0081 are the endpoints. -/
theorem test_get_status_endpoint :
    served #v[0x82, 0x00, 0x00, 0x00, 0x80, 0x00, 0x02, 0x00] configured5
      = some (.dataIn, false, some [0x00, 0x00]) ∧
    served #v[0x82, 0x00, 0x00, 0x00, 0x01, 0x00, 0x02, 0x00] configured5 = some (.idle, true, none) ∧
    served #v[0x82, 0x00, 0x00, 0x00, 0x82, 0x00, 0x02, 0x00] configured5 = some (.idle, true, none) := by decide

/-- 44_hid_class.md R109's example, and wLength 0: the draw is still made. -/
theorem test_get_report :
    served #v[0xA1, 0x01, 0x00, 0x01, 0x00, 0x00, 0x03, 0x00] { configured5 with sampler := some ⟨0x001, 2⟩ }
      = some (.dataIn, false, some [0x02, 0x01, 0x00]) ∧
    stepField (fun s => (s.ctlStage, s.lastReport))
        (withSetup #v[0xA1, 0x01, 0x00, 0x01, 0x00, 0x00, 0x00, 0x00]
          { configured5 with sampler := some ⟨0x001, 2⟩ })
      = some (.statusIn, ⟨0x02, 0x01, 0x00⟩) := by decide

/-- 44_hid_class.md R110, R113: the high byte is stored and answered. -/
theorem test_idle_rate :
    stepField (fun s => (s.idleRate, s.ctlStage))
        (withSetup #v[0x21, 0x0A, 0x05, 0x0A, 0x00, 0x00, 0x00, 0x00] configured5) = some (0x0A, .statusIn) ∧
    served #v[0xA1, 0x02, 0x00, 0x00, 0x00, 0x00, 0x01, 0x00] { configured5 with idleRate := 0x0A }
      = some (.dataIn, false, some [0x0A]) := by decide

/-- 41_control_transfer.md R83's example, and the owed zero-length packet. -/
theorem test_in_ready_0 :
    stepField (fun s => (s.address, s.devState, s.ctlStage))
        { atDefault with flagIn0 := true, ctlStage := .statusIn, ctlPaddr := 5, paddrValid := true }
      = some (5, .addressed, .idle) ∧
    stepField (fun s => (s.ep0In, s.zlpOwed, s.ctlStage))
        { atDefault with
          flagIn0 := true, ctlStage := .dataIn, ctlBuf := [1, 2, 3, 4, 5, 6, 7, 8], ctlLen := 8, ctlOff := 8,
          zlpOwed := true }
      = some (some [], false, .dataIn) := by decide

/-- 41_control_transfer.md R84's example, and an early end of a data stage. -/
theorem test_out_received_0 :
    stepField (fun s => (s.ctlStage, s.flagOut0)) { atDefault with flagOut0 := true, ctlStage := .statusOut }
      = some (.idle, false) ∧
    stepField (fun s => (s.ctlStage, s.ep0In, s.out0Latch))
        { atDefault with flagOut0 := true, out0Latch := [9], ctlStage := .dataIn, ep0In := some [1] }
      = some (.idle, none, []) := by decide

/-- 45_report_endpoint.md R115's example, and R117's last known report. -/
theorem test_in_ready_1 :
    stepField (·.ep1Banks) { configured5 with ep1Banks := [], sampler := some ⟨0x200, 8⟩ }
      = some [⟨0x08, 0x00, 0x02⟩] ∧
    stepField (·.ep1Banks) { configured5 with ep1Banks := [], lastReport := ⟨0x03, 0xFF, 0x01⟩ }
      = some [⟨0x03, 0xFF, 0x01⟩] := by decide

/-- 45_report_endpoint.md R118's examples. -/
theorem test_pack :
    pack ⟨0x3FF, 7⟩ = ⟨0x07, 0xFF, 0x03⟩ ∧ pack ⟨0x000, 15⟩ = ⟨0x0F, 0x00, 0x00⟩ := by decide

/-! ## Witnesses: the hypotheses of each statement are met -/

/-- Ready and served: parameters at the other end of each range. -/
def largeParams : Params :=
  { Params.reference with
    ep0Size := 64, ep1Size := 64, ep1Banks := 2, ep1Interval := 255,
    desc := { refDesc with
      device := refDevice.set 7 0x40,
      config := (refConfig.set 31 0x40).set 33 0xFF } }

theorem witness_well_formed :
    Instr.wf (.getStatusDevice noArgs) = true ∧ Instr.wf (.unrecognized 0x80 0x01 noArgs) = true ∧
    decode [0xFF] = .rejected (.unknownEvent 0xFF) ∧
    decode [0x40] = .instr .outReceived0 ∧
    decode [0x80, 0x01, 0, 0, 0, 0, 0, 0] = .instr (.unrecognized 0x80 0x01 noArgs) := by decide

/-- For RequestKeysSelectTheirRow's last clause: keys one bit from a row's. -/
theorem witness_no_row :
    [((0x80, 0x01) : Byte × Byte), (0x00, 0x00), (0x21, 0x0C), (0xFF, 0xFF)].all
      (fun k => !recognizedKeys.contains k) = true := by decide

/-- For EventWordsNameEventsOrAreRefused. -/
theorem witness_unknown_event :
    ∀ w ∈ [(0x01 : Byte), 0x11, 0x32, 0x41, 0xFF], w ∉ [(0x00 : Byte), 0x10, 0x20, 0x30, 0x31, 0x40] := by decide

/-- For StepRunsTheInjectedEvent, both clauses. -/
theorem witness_injected :
    (let s := { powered with inputs := [.event 0x10] }
     s.attached = true ∧ s.inputs = .event 0x10 :: [] ∧ s.halted = false ∧
       decode [0x10] = .instr .busReset) ∧
    (let s := { powered with inputs := [.event 0x41] }
     s.attached = true ∧ s.inputs = .event 0x41 :: [] ∧
       decode [0x41] = .rejected (.unknownEvent 0x41)) := by decide

/-- For EngineServicesTheFirstPendingEvent, a state for each of its four clauses, and HaltIsPermanent. -/
theorem witness_engine_turns :
    (powered.attached = true ∧ powered.inputs = [] ∧ powered.halted = false) ∧
    (let s := { powered with halted := true, faultCause := .ep0Rejected }
     s.attached = true ∧ s.inputs = [] ∧ s.halted = true) ∧
    (let s := { powered with inputs := [.engine] }
     s.attached = true ∧ s.inputs = [.engine] ∧ s.halted = false) ∧
    (let s := { powered with halted := true, inputs := [.engine] }
     s.attached = true ∧ s.inputs = [.engine] ∧ s.halted = true) := by decide

/-- For StepRunsTheLatchedRequest, SetupHandlerRunsTheDecodedRequest and EverySetupPacketIsServed. -/
theorem witness_latched :
    ∃ (s : State) (i : Instr), s.attached = true ∧ s.inputs = [] ∧ s.halted = false ∧ s.flagBusReset = false ∧
      s.flagSetup = true ∧ s.ep0Enabled = true ∧ s.setupRd = 0 ∧ decode s.setupLatch.toList = .instr i ∧
      Admitted s.params :=
  ⟨withSetup #v[0x80, 0x08, 0, 0, 0, 0, 1, 0] atDefault, .getConfiguration ⟨0, 0, 1⟩, by decide, by decide,
    by decide, by decide, by decide, by decide, by decide, by decide, by decide⟩

/-- For PlacedWordRunsNext: an event row, a request row and a whole packet. -/
theorem witness_placed :
    decodeTableWord 8 0x00 = some .powerOn ∧ decodeTableWord 8 0x40 = some .outReceived0 ∧
    decodeTableWord 16 0x8000 = some (.getStatusDevice noArgs) ∧
    decodeTableWord 64 0x0001000000008008 = some (.getConfiguration ⟨0, 0, 1⟩) := by decide

/-- For the statements with admitted parameters: both ends of each range. -/
theorem witness_admitted : Admitted Params.reference ∧ Admitted largeParams := by decide

/-- For PowerOnIsTheFirstStep and PowerOnRefusesOtherParameters. -/
theorem witness_power_on :
    State.reset.attached = false ∧
    rejection { Params.reference with ep0Size := 7 } = some .ep0Size ∧
    rejection { Params.reference with ep1Banks := 3 } = some .ep1Banks ∧
    rejection { Params.reference with desc := { refDesc with report := [] } } = some .hidDescriptor := by decide

/-- For DescribeReadsLengthFromStoredBytes, each clause, the lengths at their bounds. -/
theorem witness_describe :
    (refDesc.device[0]? = some 18 ∧ (18 : Byte).toNat ≤ refDesc.device.length) ∧
    (refDesc.config[2]? = some 34 ∧ refDesc.config[3]? = some 0 ∧
      (34 : Byte).toNat + 256 * (0 : Byte).toNat ≤ refDesc.config.length) ∧
    (refDesc.hid[0]? = some 9 ∧ (9 : Byte).toNat ≤ refDesc.hid.length) ∧
    (∀ t ∈ [(0x00 : Byte), 0x03, 0x20, 0x23, 0xFF], t ≠ 0x01 ∧ t ≠ 0x02 ∧ t ≠ 0x21 ∧ t ≠ 0x22) := by decide

/-- For GetDescriptorAnswersTheStoredEntry, InterfaceDescriptorFollowsTheParameter and
DescriptorReadReassemblesTheStoredEntry: a type with an entry, one without, each parameter value, each index. -/
theorem witness_lookups :
    describe atDefault.params.desc (BitVec.ofNat 8 ((0x2200 : Word).toNat / 256)) = .found refReport ∧
    describe atDefault.params.desc (BitVec.ofNat 8 ((0x0300 : Word).toNat / 256)) = .unsupported ∧
    atDefault.params.ifaceGetDescriptor = .stall ∧
    ({ Params.reference with ifaceGetDescriptor := .serve } : Params).ifaceGetDescriptor = .serve ∧
    (0x0001 : Word) ≠ 0x0000 ∧ (0x0001 : Word).toNat ≠ 0 ∧ (0x0000 : Word).toNat = 0 := by decide

/-- For SetConfigurationConfiguresTheReportEndpoint, each clause. -/
theorem witness_set_configuration :
    atDefault.devState = .default ∧ addressed5.devState ≠ .default ∧
    (0xFF00 : Word).toNat % 256 = 0 ∧ (0x0001 : Word).toNat % 256 ≠ 0 ∧ (0x00FF : Word).toNat % 256 ≠ 0 ∧
    ⟨.ep1, .input, .interrupt, 8, 1⟩ ∉ addressed5.params.cfgRejected ∧
    (⟨.ep1, .input, .interrupt, 8, 1⟩ : EndpointConfig) ∈
      ({ Params.reference with cfgRejected := [⟨.ep1, .input, .interrupt, 8, 1⟩] } : Params).cfgRejected := by
  decide

/-- For BusResetReturnsToDefault, each clause. -/
theorem witness_bus_reset :
    ⟨.ep0, .control, .control, 8, 1⟩ ∉ powered.params.cfgRejected ∧
    (⟨.ep0, .control, .control, 8, 1⟩ : EndpointConfig) ∈
      ({ Params.reference with cfgRejected := [⟨.ep0, .control, .control, 8, 1⟩] } : Params).cfgRejected ∧
    (next? (exec .busReset powered)).isSome = true := by decide

/-- For InReadyZeroContinuesTheTransfer, each clause, the offset at the length and one below it. -/
theorem witness_in_ready_0 :
    (let s := { atDefault with ctlStage := .dataIn, ctlLen := 9, ctlOff := 8 }
     s.ep0In = none ∧ s.ctlStage = .dataIn ∧ s.ctlOff.toNat < s.ctlLen.toNat) ∧
    (let s := { atDefault with ctlStage := .dataIn, ctlLen := 8, ctlOff := 8, zlpOwed := true }
     s.ep0In = none ∧ s.ctlStage = .dataIn ∧ ¬ s.ctlOff.toNat < s.ctlLen.toNat ∧ s.zlpOwed = true) ∧
    (let s := { atDefault with ctlStage := .dataIn, ctlLen := 8, ctlOff := 8 }
     s.ctlStage = .dataIn ∧ ¬ s.ctlOff.toNat < s.ctlLen.toNat ∧ s.zlpOwed = false) ∧
    (let s := { atDefault with ctlStage := .statusIn, paddrValid := true }
     s.ctlStage = .statusIn ∧ s.paddrValid = true) ∧
    (let s := { atDefault with ctlStage := .statusIn }
     s.ctlStage = .statusIn ∧ s.paddrValid = false) ∧
    atDefault.ctlStage = .idle ∧
    ({ atDefault with ctlStage := .statusOut } : State).ctlStage = .statusOut := by decide

/-- For OutReceivedEndsARead: a state in each stage. -/
theorem witness_out_received_0 :
    ({ atDefault with ctlStage := .dataIn } : State).ctlStage = .dataIn ∧
    ({ atDefault with ctlStage := .statusOut } : State).ctlStage = .statusOut ∧
    ({ atDefault with ctlStage := .statusIn } : State).ctlStage = .statusIn ∧
    atDefault.ctlStage = .idle := by decide

/-- For InReadyOneArmsOneReport and ReportCarriesTheSampleBitForBit: a free bank and a full one. -/
theorem witness_in_ready_1 :
    (∃ (s t : State) (d : Snapshot), s.sampler = some d ∧ s.ep1Active = true ∧
      s.ep1Banks.length < s.params.ep1Banks ∧ exec .inReady1 s = .next t) ∧
    ¬ (configured5.ep1Active = true ∧ configured5.ep1Banks.length < configured5.params.ep1Banks) :=
  ⟨⟨{ configured5 with ep1Banks := [], sampler := some ⟨0x3FF, 15⟩ }, _, ⟨0x3FF, 15⟩, rfl, rfl, by decide, rfl⟩,
    by decide⟩

/-- For HostMovesAreTakenInEveryState. -/
theorem witness_host_move :
    ({ powered with inputs := [.host .reset] } : State).attached = true ∧
    ({ powered with inputs := [.host .reset] } : State).inputs = .host .reset :: [] := by decide

/-- For SampleInputSetsWhatSampleAnswers, with a sample and with none. -/
theorem witness_sample_input :
    ∀ d ∈ [none, some (⟨0x200, 8⟩ : Snapshot)],
      ({ powered with inputs := [.sample d] } : State).attached = true ∧
      ({ powered with inputs := [.sample d] } : State).inputs = .sample d :: [] := by decide

/-- For HostBusTable and TokensAreAnsweredOnlyAtTheAddress: a state that answers to address 5 and one for each
row's condition, the packet lengths at and beside their bounds. -/
theorem witness_host_bus :
    Ok 5 configured5 ∧ configured5.ep0Enabled = true ∧ configured5.ep1Active = true ∧
    ¬ Ok 0 configured5 ∧ (0 : UsbAddr) ≠ configured5.address ∧
    ¬ Ok 5 { configured5 with flagBusReset := true } ∧
    powered.ep0Enabled = false ∧ addressed5.ep1Active = false ∧
    ([0, 0, 0, 0, 0, 0, 0] : List Byte).length ≠ 8 ∧ ([0, 0, 0, 0, 0, 0, 0, 0, 0] : List Byte).length ≠ 8 ∧
    (withSetup #v[0, 0, 0, 0, 0, 0, 0, 0] configured5).flagSetup = true ∧ configured5.flagSetup = false ∧
    ({ configured5 with ep0Stall := true } : State).ep0Stall = true ∧ configured5.ep0Stall = false ∧
    ({ configured5 with ep0In := some [1] } : State).ep0In = some [1] ∧ configured5.ep0In = none ∧
    ([0, 0, 0, 0, 0, 0, 0, 0] : List Byte).length ≤ configured5.params.ep0Size ∧
    configured5.params.ep0Size < ([0, 0, 0, 0, 0, 0, 0, 0, 0] : List Byte).length ∧
    configured5.ep1Banks = ⟨0x08, 0x00, 0x00⟩ :: [] ∧
    ({ configured5 with ep1Banks := [] } : State).ep1Banks = [] ∧
    (2 : BitVec 4) ≠ 0 ∧ (2 : BitVec 4) ≠ 1 ∧ (15 : BitVec 4) ≠ 0 ∧ (15 : BitVec 4) ≠ 1 ∧
    (hostStep (.inToken 5 1) configured5).answers = configured5.answers ++ [.data [0x08, 0x00, 0x00]] := by
  unfold Ok; decide

/-- A legal state without pending injections, in each device state: for PoweredDeviceAwaitsABusReset,
StepKeepsLegal, LegalStepsStopOnlyWhenHalted and EngineComesToRest. -/
theorem witness_legal :
    (Legal powered ∧ powered.halted = false ∧ powered.devState = .powered) ∧
    Legal atDefault ∧ Legal addressed5 ∧ Legal configured5 ∧ configured5.attached = true ∧
    Admitted configured5.params ∧ (∃ t, step configured5 = .next t) :=
  ⟨⟨⟨by decide, by decide⟩, by decide, by decide⟩, ⟨by decide, by decide⟩, ⟨by decide, by decide⟩,
    ⟨by decide, by decide⟩, by decide, by decide, _, rfl⟩

/-- For PoweredDeviceAwaitsABusReset's second clause. -/
theorem witness_powered_reset : pendingEvent { powered with flagBusReset := true } = some .busReset := by decide

/-- For OnlyNamedHandlersWriteARegister: each clause's register written, by an instruction it names. -/
theorem witness_writes :
    (∃ t, exec (.setConfigurationDevice ⟨1, 0, 0⟩) addressed5 = .next t ∧ t.devState ≠ addressed5.devState ∧
      t.configuration ≠ addressed5.configuration ∧ t.ep1Active ≠ addressed5.ep1Active) ∧
    (∃ t, exec (.setInterface noArgs) { configured5 with interfaceAlt := 1 } = .next t ∧ t.interfaceAlt ≠ 1) ∧
    (∃ t, exec (.setIdle ⟨0x0A00, 0, 0⟩) atDefault = .next t ∧ t.idleRate ≠ atDefault.idleRate) ∧
    (∃ t, exec (.setAddress ⟨5, 0, 0⟩) atDefault = .next t ∧ t.ctlPaddr ≠ atDefault.ctlPaddr) ∧
    (∃ t, exec .busReset powered = .next t ∧ t.ep0Enabled ≠ powered.ep0Enabled) ∧
    (let s := { powered with
       params := { Params.reference with cfgRejected := [⟨.ep0, .control, .control, 8, 1⟩] } }
     ∃ t, exec .busReset s = .next t ∧ t.halted ≠ s.halted ∧ t.faultCause ≠ s.faultCause) ∧
    (let s := { configured5 with sampler := some ⟨1, 2⟩ }
     ∃ t, exec (.getReport ⟨0, 0, 3⟩) s = .next t ∧ t.lastReport ≠ s.lastReport) :=
  ⟨⟨_, rfl, by decide, by decide, by decide⟩, ⟨_, rfl, by decide⟩, ⟨_, rfl, by decide⟩, ⟨_, rfl, by decide⟩,
    ⟨_, rfl, by decide⟩, ⟨_, rfl, by decide, by decide⟩, ⟨_, rfl, by decide⟩⟩

/-- For ReportEventLeavesTheControlTransfer, HandlersLeaveTheWorldAlone and PowerOnEstablishesLegal: an instruction
of each kind answers a next state. -/
theorem witness_answers :
    (∃ t, exec .inReady1 configured5 = .next t) ∧ (∃ t, exec .inReady0 configured5 = .next t) ∧
    (∃ t, exec .outReceived0 configured5 = .next t) ∧
    (∃ t, exec (.getIdle ⟨0, 0, 1⟩) configured5 = .next t ∧ Instr.isEvent (.getIdle ⟨0, 0, 1⟩) = false) ∧
    (∃ t, exec .busReset { configured5 with flagBusReset := true } = .next t ∧ t.flagBusReset ≠ true) ∧
    (NoInjection State.reset ∧ ∃ t, exec .powerOn State.reset = .next t) :=
  ⟨⟨_, rfl⟩, ⟨_, rfl⟩, ⟨_, rfl⟩, ⟨_, rfl, rfl⟩, ⟨_, rfl, by decide⟩, by decide, _, rfl⟩

/-- For AddressChangesOnlyAtStatusCompletion. -/
theorem witness_address_change :
    ∃ (s t : State), exec .inReady0 s = .next t ∧ t.address ≠ s.address :=
  ⟨{ atDefault with ctlStage := .statusIn, ctlPaddr := 127, paddrValid := true }, _, rfl, by decide⟩

/-- For SetAddressTakesEffectAfterItsStatusPacket: the address at both ends, and above 127. -/
theorem witness_set_address :
    ∃ t, Ready atDefault ∧ (0x0001 : Word).toNat % 128 ≠ 0 ∧ (0x007F : Word).toNat % 128 ≠ 0 ∧
      (0x0081 : Word).toNat % 128 ≠ 0 ∧ exec (.setAddress ⟨0x0001, 0, 0⟩) atDefault = .next t :=
  ⟨_, by unfold Ready; decide, by decide, by decide, by decide, rfl⟩

/-- For GetIdleAnswersTheRateSet. -/
theorem witness_get_idle : ∃ t, exec (.setIdle ⟨0x0A00, 0x0000, 0⟩) configured5 = .next t := ⟨_, rfl⟩

/-- For StallEndsOnlyAtSetupOrBusReset. -/
theorem witness_stall_ends :
    ∃ (s t : State), step s = .next t ∧ s.ep0Stall = true ∧ t.ep0Stall = false :=
  ⟨{ withSetup #v[0x80, 0x00, 0, 0, 0, 0, 2, 0] atDefault with ep0Stall := true }, _, rfl, by decide, by decide⟩

/-- For SetupAbortsTheTransferInFlight and IdleRateHasNoEffect, and the POWER_ON of RegistersStandAsTheMapSays. -/
theorem witness_instructions :
    Instr.isEvent (.setReport noArgs) = false ∧
    (∀ i ∈ [Instr.busReset, .inReady0, .inReady1, .outReceived0, .getReport noArgs, .getConfiguration noArgs],
      i ≠ .powerOn ∧ i ≠ .setupReceived ∧ (∀ a, i ≠ .getIdle a) ∧ ∀ a, i ≠ .setIdle a) ∧
    ∃ t, exec .powerOn State.reset = .next t := ⟨rfl, by simp, _, rfl⟩

/-- For HaltIsPermanent's first clause: a bus reset driven while the engine is halted. -/
theorem witness_halted :
    ∃ (s t : State), s.attached = true ∧ s.halted = true ∧ step s = .next t ∧
      ∀ rest, s.inputs ≠ .event 0x00 :: rest :=
  ⟨{ powered with halted := true, inputs := [.host .reset] }, _, by decide, by decide, rfl, by simp⟩

/-- For ReachableStatesMeetTheStateRules: a run of two moves after POWER_ON. -/
theorem witness_reachable :
    ∃ t, (∀ w, Input.event w ∉ [Input.host .reset, Input.engine]) ∧
      Sys2Proof.core.run 3
        { State.reset with params := Params.reference, inputs := [.host .reset, .engine] } = .next t ∧
      t.halted = false := ⟨_, by decide, rfl, by decide⟩

/-- For DataStageDeliversTheResponse: a whole last packet owed a zero-length one, and a cut response. -/
theorem witness_data_stage :
    Ready atDefault ∧ 0 < atDefault.params.ep0Size ∧ 0 < dataLength refReport 0x00FF ∧
    0 < dataLength refDevice 0x0001 := by
  unfold Ready; decide

/-- For ConfigurationMakesTheDeviceReport. -/
theorem witness_configuration_reports :
    ∃ t, Ready addressed5 ∧ 0 < addressed5.params.ep1Banks ∧ addressed5.devState ≠ .default ∧
      (0x0001 : Word).toNat % 256 ≠ 0 ∧ ⟨.ep1, .input, .interrupt, 8, 1⟩ ∉ addressed5.params.cfgRejected ∧
      exec (.setConfigurationDevice ⟨0x0001, 0, 0⟩) addressed5 = .next t :=
  ⟨_, by unfold Ready; decide, by decide, by decide, by decide, by decide, rfl⟩

end Sys2Proof.Tests
end

/-! The Descriptor Store (20_memory.md R51, R52): what each table's lookup reads, and the entry it answers. -/

namespace Sys2Proof.Machine

/-! ### The length fields -/

theorem byteAt_eq_some {table : List Byte} {k : Nat} {b : Byte} (h : table[k]? = some b) :
    byteAt table k = some b.toNat := by
  rw [byteAt, h, Option.map_some]

theorem wordAt_eq_some {table : List Byte} {k : Nat} {lo hi : Byte} (hlo : table[k]? = some lo)
    (hhi : table[k + 1]? = some hi) : wordAt table k = some (lo.toNat + 256 * hi.toNat) := by
  simp only [wordAt, hlo, hhi, toNat_le16]

/-- Where the length fits the table, the entry is the table's first bytes. -/
theorem readEntry_of_le {table : List Byte} {n : Nat} (h : n ≤ table.length) :
    readEntry table (some n) = .found (table.take n) := by
  have hread : memRead table 0 n = some (table.take n) :=
    (memRead_eq_some_iff table _ 0 n).2 ⟨by omega, by rw [List.drop_zero]⟩
  rw [readEntry, Option.bind_some, hread]

/-! ### The lookup of each descriptor type -/

theorem describe_device (d : DescTables) : describe d 0x01 = readEntry d.device (byteAt d.device 0) := rfl

theorem describe_config (d : DescTables) : describe d 0x02 = readEntry d.config (wordAt d.config 2) := rfl

theorem describe_hid (d : DescTables) : describe d 0x21 = readEntry d.hid (byteAt d.hid 0) := rfl

/-- The report descriptor has no length field: its entry is the whole table (R52). -/
theorem describe_report (d : DescTables) : describe d 0x22 = .found d.report := by
  change readEntry d.report (some d.report.length) = .found d.report
  rw [readEntry_of_le le_rfl, List.take_length]

theorem describe_of_other_type (d : DescTables) {t : Byte} (hdevice : t ≠ 0x01) (hconfig : t ≠ 0x02)
    (hhid : t ≠ 0x21) (hreport : t ≠ 0x22) : describe d t = .unsupported := by
  rw [describe, if_neg hdevice, if_neg hconfig, if_neg hhid, if_neg hreport]

/-- Settles O16: each type's lookup reads the stored length, and a length that fits its table is found. -/
theorem describeReadsLengthFromStoredBytes : Obligations.DescribeReadsLengthFromStoredBytes := by
  intro d
  refine ⟨?device, ?config, ?hid, describe_report d, fun _ => describe_of_other_type d⟩
  case device =>
    intro n hn hfit
    rw [describe_device, byteAt_eq_some hn, readEntry_of_le hfit]
  case config =>
    intro lo hi hlo hhi hfit
    rw [describe_config, wordAt_eq_some hlo hhi, readEntry_of_le hfit]
  case hid =>
    intro n hn hfit
    rw [describe_hid, byteAt_eq_some hn, readEntry_of_le hfit]

end Sys2Proof.Machine

/-! The event words (30_encoding.md R69): which words name an event, and what the decoder makes of one word. -/

namespace Sys2Proof

/-- An event word is its kind in bits 7:4 and its endpoint in bits 3:0. -/
theorem eq_ofNat_of_nibbles {w : Byte} {kind ep : Nat} (hkind : (w.extractLsb' 4 4).toNat = kind)
    (hep : (w.extractLsb' 0 4).toNat = ep) : w = BitVec.ofNat 8 (16 * kind + ep) := by
  apply BitVec.eq_of_toNat_eq
  rw [BitVec.extractLsb'_toNat, Nat.shiftRight_eq_div_pow] at hkind hep
  rw [BitVec.toNat_ofNat]
  omega

/-- The table of R69, read backwards: each event is named by one word only. -/
theorem eventOf_eq_some_cases {w : Byte} {i : Instr} (h : eventOf w = some i) :
    (w = 0x00 ∧ i = .powerOn) ∨ (w = 0x10 ∧ i = .busReset) ∨ (w = 0x20 ∧ i = .setupReceived) ∨
    (w = 0x30 ∧ i = .inReady0) ∨ (w = 0x31 ∧ i = .inReady1) ∨ (w = 0x40 ∧ i = .outReceived0) := by
  unfold eventOf at h
  split at h
  case h_7 => cases h
  all_goals
    next hkind hep =>
    cases h
    simp [eq_ofNat_of_nibbles hkind hep]

theorem eventOf_eq_none_of_notMem {w : Byte} (hw : w ∉ [0x00, 0x10, 0x20, 0x30, 0x31, 0x40]) :
    eventOf w = none := by
  cases h : eventOf w with
  | none => rfl
  | some i =>
    refine absurd ?_ hw
    obtain ⟨rfl, -⟩ | ⟨rfl, -⟩ | ⟨rfl, -⟩ | ⟨rfl, -⟩ | ⟨rfl, -⟩ | ⟨rfl, -⟩ := eventOf_eq_some_cases h <;>
      decide

theorem decode_word_of_eventOf_eq_some {w : Byte} {i : Instr} (h : eventOf w = some i) :
    decode [w] = .instr i := by
  simp only [decode, h]

theorem decode_word_of_eventOf_eq_none {w : Byte} (h : eventOf w = none) :
    decode [w] = .rejected (.unknownEvent w) := by
  simp only [decode, h]

/-- Settles O5: the table's six rows evaluate, and `eventOf` names no event for a word outside the table. -/
theorem eventWordsNameEventsOrAreRefused : Obligations.EventWordsNameEventsOrAreRefused := by
  refine ⟨?table, fun _ hw => decode_word_of_eventOf_eq_none (eventOf_eq_none_of_notMem hw)⟩
  case table =>
    refine ⟨?_, ?_, ?_, ?_, ?_, ?_⟩ <;> exact decode_word_of_eventOf_eq_some rfl

end Sys2Proof

/-! A device in POWERED (40_enumeration.md R72): what the host gets where no endpoint answers, and which events the
invariant leaves pending. -/

namespace Sys2Proof.Machine
open Sys2Proof.Expect

/-! ### Tokens that get no handshake -/

theorem hostSetup_of_unanswered {a : UsbAddr} {s : State} (b : List Byte)
    (h : (answersTo a s && s.ep0Enabled) = false) : hostSetup a b s = (s, .noHandshake) := by
  simp [hostSetup, h]

theorem hostIn0_of_unanswered {a : UsbAddr} {s : State} (h : (answersTo a s && s.ep0Enabled) = false) :
    hostIn0 a s = (s, .noHandshake) := by
  simp [hostIn0, h]

theorem hostOut0_of_unanswered {a : UsbAddr} {s : State} (d : List Byte)
    (h : (answersTo a s && s.ep0Enabled) = false) : hostOut0 a d s = (s, .noHandshake) := by
  simp [hostOut0, h]

theorem hostIn1_of_unanswered {a : UsbAddr} {s : State} (h : (answersTo a s && s.ep1Active) = false) :
    hostIn1 a s = (s, .noHandshake) := by
  simp [hostIn1, h]

/-- Where the peripheral stands still, the host step records the answer and nothing else. -/
theorem hostStep_eq_heard {x : HostAction} {s : State} {r : Answer} (h : busAction x s = (s, some r)) :
    hostStep x s = heard r s := by
  rw [hostStep, h]
  rfl

theorem hostStep_setup_of_unanswered {a : UsbAddr} {s : State} (b : List Byte)
    (h : (answersTo a s && s.ep0Enabled) = false) : hostStep (.setup a b) s = heard .noHandshake s :=
  hostStep_eq_heard (by simp only [busAction, hostSetup_of_unanswered b h])

/-- Endpoints other than 0 and 1 do not exist: they get no handshake in any state. -/
theorem hostStep_inToken_of_unanswered {a : UsbAddr} {s : State} (e : BitVec 4)
    (h0 : (answersTo a s && s.ep0Enabled) = false) (h1 : (answersTo a s && s.ep1Active) = false) :
    hostStep (.inToken a e) s = heard .noHandshake s :=
  hostStep_eq_heard (by simp only [busAction, hostIn0_of_unanswered h0, hostIn1_of_unanswered h1, ite_self])

theorem hostStep_outPacket_of_unanswered {a : UsbAddr} {s : State} (e : BitVec 4) (d : List Byte)
    (h : (answersTo a s && s.ep0Enabled) = false) : hostStep (.outPacket a e d) s = heard .noHandshake s :=
  hostStep_eq_heard (by simp only [busAction, hostOut0_of_unanswered d h, ite_self])

/-! ### The endpoints and events of a device in POWERED -/

/-- The report endpoint is active in CONFIGURED only (10_state.md R36 (3)). -/
theorem ep1Active_eq_false_of_powered {s : State} (hactive : ActiveIffConfigured s)
    (hpowered : s.devState = .powered) : s.ep1Active = false := by
  rw [← Bool.not_eq_true, hactive.1, hpowered]
  simp

theorem ep1BankFree_eq_false_of_inactive {s : State} (h : s.ep1Active = false) : ep1BankFree s = false := by
  rw [ep1BankFree, h, Bool.false_and]

/-- With neither endpoint enabled the flag rules leave only a bus reset to service. -/
theorem pendingEvent_eq_busReset_of_disabled {s : State} {i : Instr} (hflags : FlagRules s)
    (h0 : s.ep0Enabled = false) (h1 : s.ep1Active = false) (h : pendingEvent s = some i) : i = .busReset := by
  obtain ⟨-, -, hdisabled⟩ := hflags
  obtain ⟨-, hout, hin⟩ := hdisabled h0
  obtain ⟨-, hcases⟩ := pendingEvent_cases h
  obtain ⟨hi, -⟩ | ⟨-, -, -, henabled⟩ | ⟨-, -, hflag⟩ | ⟨-, -, -, hflag⟩ | ⟨-, -, -, hfree⟩ := hcases
  case inl => exact hi
  case inr.inl => simp [h0] at henabled
  case inr.inr.inl => simp [hout] at hflag
  case inr.inr.inr.inl => simp [hin] at hflag
  case inr.inr.inr.inr => simp [ep1BankFree_eq_false_of_inactive h1] at hfree

/-- Settles O38: in POWERED the state rules disable both endpoints, so nothing answers a token and the flag rules
leave no other event pending. -/
theorem poweredDeviceAwaitsABusReset : Obligations.PoweredDeviceAwaitsABusReset := by
  intro s hlegal hrunning hpowered
  obtain ⟨⟨hquiet, -, hactive, -⟩, hflags⟩ := hlegal.1 hrunning
  have h0 : s.ep0Enabled = false := (hquiet hpowered).1
  have h1 : s.ep1Active = false := ep1Active_eq_false_of_powered hactive hpowered
  refine ⟨h0, fun _ => pendingEvent_eq_busReset_of_disabled hflags h0 h1, fun a b d e => ?tokens⟩
  case tokens =>
    have hep0 : (answersTo a s && s.ep0Enabled) = false := by rw [h0, Bool.and_false]
    have hep1 : (answersTo a s && s.ep1Active) = false := by rw [h1, Bool.and_false]
    exact ⟨hostStep_setup_of_unanswered b hep0, hostStep_inToken_of_unanswered e hep0 hep1,
      hostStep_outPacket_of_unanswered e d hep0⟩

end Sys2Proof.Machine

/-! OUT_RECEIVED(0) (41_control_transfer.md R84): the packet ends a read's transfer, or is ignored. -/

namespace Sys2Proof.Machine

theorem exec_outReceived0 (s : State) : exec .outReceived0 s = execOutReceived0 s := rfl

/-- A host that sends an OUT in a read has ended its data stage, whether or not all the data was taken. -/
theorem execOutReceived0_of_read {s : State} (h : s.ctlStage = .dataIn ∨ s.ctlStage = .statusOut) :
    execOutReceived0 s
      = .next { s with
          flagOut0 := false, out0Latch := [], ep0In := none, zlpOwed := false, ctlStage := .idle } := by
  obtain ⟨-, hnext⟩ | ⟨hstage, -⟩ := execOutReceived0_cases s
  · exact hnext
  · exact absurd hstage (by obtain h | h := h <;> simp [h])

/-- Outside a read the flag and the latch are consumed and the transfer stands where it was. -/
theorem execOutReceived0_of_not_read {s : State} (h : s.ctlStage = .statusIn ∨ s.ctlStage = .idle) :
    execOutReceived0 s = .next { s with flagOut0 := false, out0Latch := [] } := by
  obtain ⟨hstage, -⟩ | ⟨-, hnext⟩ := execOutReceived0_cases s
  · exact absurd hstage (by obtain h | h := h <;> simp [h])
  · exact hnext

/-- Settles O31: the event's word evaluates, and its handler answers by whether the stage is a read's. -/
theorem outReceivedEndsARead : Obligations.OutReceivedEndsARead := by
  refine ⟨rfl, fun s => ?stages⟩
  case stages =>
    rw [exec_outReceived0]
    exact ⟨execOutReceived0_of_read, execOutReceived0_of_not_read⟩

end Sys2Proof.Machine

/-! The SETUP handler in the obligations' vocabulary (41_control_transfer.md R78 to R82): what a request that stalls,
one with a response and one without answer, once for every request. -/

namespace Sys2Proof.Machine
open Sys2Proof.Expect

theorem stallOutcome_abortTransfer (s : State) : stallOutcome (abortTransfer s) = stalled s := rfl

theorem responseBegun_abortTransfer (resp : List Byte) (w : Word) (s : State) :
    responseBegun resp w (abortTransfer s) = replied resp w s := rfl

theorem serve_eq_stalled {rule : Rule} {a : SetupArgs} {s : State} {c : StallCause}
    (h : rule a (abortTransfer s) = .reply (.stall c) (abortTransfer s)) :
    serve rule a s = .next (stalled s) := by
  rw [serve_stall h, stallOutcome_abortTransfer]

theorem serve_eq_replied {rule : Rule} {a : SetupArgs} {s : State} {resp : List Byte}
    (h : rule a (abortTransfer s) = .reply (.data resp) (abortTransfer s)) :
    serve rule a s = .next (replied resp a.length s) := by
  rw [serve_data h rfl, responseBegun_abortTransfer]

/-- A rule with one check: its response where the check passes, else a stall. -/
theorem serve_eq_replied_or_stalled {rule : Rule} {a : SetupArgs} {s : State} {resp : List Byte} {c : StallCause}
    {P : Prop} [Decidable P] (hpass : P → rule a (abortTransfer s) = .reply (.data resp) (abortTransfer s))
    (hfail : ¬ P → rule a (abortTransfer s) = .reply (.stall c) (abortTransfer s)) :
    serve rule a s = .next (if P then replied resp a.length s else stalled s) := by
  split
  case isTrue hP => exact serve_eq_replied (hpass hP)
  case isFalse hP => exact serve_eq_stalled (hfail hP)

/-- A no-data outcome that leaves no address pending only arms the status packet. -/
theorem serve_noData_none {rule : Rule} {a : SetupArgs} {s u : State}
    (h : rule a (abortTransfer s) = .reply (.noData none) u) (hfree : u.ep0In = none) :
    serve rule a s = .next { u with ep0In := some [], ctlStage := .statusIn } :=
  serve_noData h hfree

/-! ### The index checks -/

theorem ifIndexOk_iff (a : SetupArgs) : a.ifIndexOk = true ↔ a.index = 0x0000 := by
  simp [SetupArgs.ifIndexOk]

theorem endpointOk_iff (a : SetupArgs) :
    a.endpointOk = true ↔ a.index = 0x0000 ∨ a.index = 0x0080 ∨ a.index = 0x0081 := by
  simp [SetupArgs.endpointOk, or_assoc]

end Sys2Proof.Machine

/-! CLEAR_FEATURE, SET_FEATURE and SET_DESCRIPTOR of the device (42_std_device.md R89, R90, R93). -/

namespace Sys2Proof.Machine

theorem exec_clearFeatureDevice (a : SetupArgs) (s : State) :
    exec (.clearFeatureDevice a) s = serve ruleClearFeatureDevice a s := rfl

theorem exec_setFeatureDevice (a : SetupArgs) (s : State) :
    exec (.setFeatureDevice a) s = serve ruleSetFeatureDevice a s := rfl

theorem exec_setDescriptor (a : SetupArgs) (s : State) :
    exec (.setDescriptor a) s = serve ruleSetDescriptor a s := rfl

/-- Settles O17: the three keys evaluate, and each rule is a stall whatever its operands and the state. -/
theorem unsupportedDeviceRequestsStall : Obligations.UnsupportedDeviceRequestsStall := by
  refine ⟨fun a => ⟨rfl, rfl, rfl⟩, fun s a => ⟨?clearFeature, ?setFeature, ?setDescriptor⟩⟩
  case clearFeature => rw [exec_clearFeatureDevice, serve_eq_stalled rfl]
  case setFeature => rw [exec_setFeatureDevice, serve_eq_stalled rfl]
  case setDescriptor => rw [exec_setDescriptor, serve_eq_stalled rfl]

end Sys2Proof.Machine

/-! GET_STATUS in its three forms (42_std_device.md R88, 43_std_interface_endpoint.md R97, R105). -/

namespace Sys2Proof.Machine

theorem exec_getStatusDevice (a : SetupArgs) (s : State) :
    exec (.getStatusDevice a) s = serve ruleGetStatusDevice a s := rfl

theorem exec_getStatusInterface (a : SetupArgs) (s : State) :
    exec (.getStatusInterface a) s = serve ruleGetStatusInterface a s := rfl

theorem exec_getStatusEndpoint (a : SetupArgs) (s : State) :
    exec (.getStatusEndpoint a) s = serve ruleGetStatusEndpoint a s := rfl

/-- Settles O18: the three keys evaluate; the device form has no check, the other two check the index only. -/
theorem getStatusAnswersTwoZeroBytes : Obligations.GetStatusAnswersTwoZeroBytes := by
  refine ⟨fun a => ⟨rfl, rfl, rfl⟩, fun s a => ⟨?device, ?interface, ?endpoint⟩⟩
  case device => rw [exec_getStatusDevice, serve_eq_replied rfl]
  case interface =>
    rw [exec_getStatusInterface]
    exact serve_eq_replied_or_stalled (fun hindex => if_pos ((ifIndexOk_iff a).2 hindex))
      fun hindex => if_neg (mt (ifIndexOk_iff a).1 hindex)
  case endpoint =>
    rw [exec_getStatusEndpoint]
    exact serve_eq_replied_or_stalled (fun hindex => if_pos ((endpointOk_iff a).2 hindex))
      fun hindex => if_neg (mt (endpointOk_iff a).1 hindex)

end Sys2Proof.Machine

/-! SET_CONFIGURATION(device) (42_std_device.md R95): the four branches of its rule, and the handler around each. -/

namespace Sys2Proof.Machine
open Sys2Proof.Expect

theorem exec_setConfigurationDevice (a : SetupArgs) (s : State) :
    exec (.setConfigurationDevice a) s = serve ruleSetConfigurationDevice a s := rfl

/-! ### What the rule tests -/

theorem configValue_eq_ofNat (a : SetupArgs) : a.configValue = BitVec.ofNat 8 a.value.toNat := by
  apply BitVec.eq_of_toNat_eq
  rw [SetupArgs.configValue, toNat_lowByte, BitVec.toNat_ofNat]

theorem configValue_eq_zero_iff (a : SetupArgs) : a.configValue = 0 ↔ a.value.toNat % 256 = 0 := by
  rw [SetupArgs.configValue, ← BitVec.toNat_inj, toNat_lowByte]
  rfl

theorem cfgOk_ep1Config_iff (p : Params) : cfgOk p (ep1Config p) = true ↔ ep1Accepted p := by
  simp [cfgOk, ep1Config, ep1Accepted]

theorem configEp_ep1_of_accepted {s : State} (h : ep1Accepted s.params) :
    configEp (ep1Config s.params) s = (true, { disableEp1 s with ep1Active := true }) := by
  rw [configEp_ep1, if_pos ((cfgOk_ep1Config_iff _).2 h)]

theorem configEp_ep1_of_rejected {s : State} (h : ¬ ep1Accepted s.params) :
    configEp (ep1Config s.params) s = (false, disableEp1 s) := by
  rw [configEp_ep1, if_neg (mt (cfgOk_ep1Config_iff _).1 h)]

/-! ### The rule's branches -/

section
variable {a : SetupArgs} {s : State}

theorem ruleSetConfigurationDevice_of_default (hstate : s.devState = .default) :
    ruleSetConfigurationDevice a s = .reply (.stall .invalidState) s := by
  rw [ruleSetConfigurationDevice, if_pos hstate]

theorem ruleSetConfigurationDevice_of_zero (hstate : s.devState ≠ .default) (hvalue : a.value.toNat % 256 = 0) :
    ruleSetConfigurationDevice a s
      = .reply (.noData none) { disableEp1 s with configuration := 0, devState := .addressed } := by
  rw [ruleSetConfigurationDevice, if_neg hstate, if_pos ((configValue_eq_zero_iff a).2 hvalue)]

theorem ruleSetConfigurationDevice_of_accepted (hstate : s.devState ≠ .default)
    (hvalue : a.value.toNat % 256 ≠ 0) (haccepted : ep1Accepted s.params) :
    ruleSetConfigurationDevice a s
      = .reply (.noData none)
          { disableEp1 s with
            ep1Active := true, configuration := BitVec.ofNat 8 a.value.toNat, interfaceAlt := 0,
            devState := .configured } := by
  rw [ruleSetConfigurationDevice, if_neg hstate, if_neg (mt (configValue_eq_zero_iff a).1 hvalue),
    configEp_ep1_of_accepted haccepted, configValue_eq_ofNat]

theorem ruleSetConfigurationDevice_of_rejected (hstate : s.devState ≠ .default)
    (hvalue : a.value.toNat % 256 ≠ 0) (hrejected : ¬ ep1Accepted s.params) :
    ruleSetConfigurationDevice a s = .halt (raiseHalt .ep1Rejected (disableEp1 s)) := by
  rw [ruleSetConfigurationDevice, if_neg hstate, if_neg (mt (configValue_eq_zero_iff a).1 hvalue),
    configEp_ep1_of_rejected hrejected]

end

/-- Settles O22: the key evaluates; the abort before the dispatch leaves DEV_STATE and the parameters, so the rule's
branch is the one the given state selects, and its outcome runs over the bank the abort has emptied. -/
theorem setConfigurationConfiguresTheReportEndpoint :
    Obligations.SetConfigurationConfiguresTheReportEndpoint := by
  refine ⟨fun a => rfl, fun s a => ?branches⟩
  case branches =>
    rw [exec_setConfigurationDevice]
    refine ⟨fun hstate => ?default, fun hstate hvalue => ?zero, fun hstate hvalue haccepted => ?accepted,
      fun hstate hvalue hrejected => ?rejected⟩
    case default => exact serve_eq_stalled (ruleSetConfigurationDevice_of_default hstate)
    case zero => exact serve_noData_none (ruleSetConfigurationDevice_of_zero hstate hvalue) rfl
    case accepted => exact serve_noData_none (ruleSetConfigurationDevice_of_accepted hstate hvalue haccepted) rfl
    case rejected => exact serve_halt (ruleSetConfigurationDevice_of_rejected hstate hvalue hrejected)

end Sys2Proof.Machine

/-! CLEAR_FEATURE, SET_FEATURE and SYNCH_FRAME of the interface and of an endpoint (43_std_interface_endpoint.md R98,
R99, R104, R106, R107, R108). -/

namespace Sys2Proof.Machine

theorem exec_clearFeatureInterface (a : SetupArgs) (s : State) :
    exec (.clearFeatureInterface a) s = serve ruleClearFeatureInterface a s := rfl

theorem exec_setFeatureInterface (a : SetupArgs) (s : State) :
    exec (.setFeatureInterface a) s = serve ruleSetFeatureInterface a s := rfl

theorem exec_synchFrameInterface (a : SetupArgs) (s : State) :
    exec (.synchFrameInterface a) s = serve ruleSynchFrameInterface a s := rfl

theorem exec_clearFeatureEndpoint (a : SetupArgs) (s : State) :
    exec (.clearFeatureEndpoint a) s = serve ruleClearFeatureEndpoint a s := rfl

theorem exec_setFeatureEndpoint (a : SetupArgs) (s : State) :
    exec (.setFeatureEndpoint a) s = serve ruleSetFeatureEndpoint a s := rfl

theorem exec_synchFrameEndpoint (a : SetupArgs) (s : State) :
    exec (.synchFrameEndpoint a) s = serve ruleSynchFrameEndpoint a s := rfl

/-- Settles O23: the six keys evaluate, and each rule is a stall whatever its operands and the state. -/
theorem unsupportedInterfaceAndEndpointRequestsStall :
    Obligations.UnsupportedInterfaceAndEndpointRequestsStall := by
  refine ⟨fun a => ⟨rfl, rfl, rfl, rfl, rfl, rfl⟩, fun s a => ⟨?clearFeatureInterface, ?setFeatureInterface,
    ?synchFrameInterface, ?clearFeatureEndpoint, ?setFeatureEndpoint, ?synchFrameEndpoint⟩⟩
  case clearFeatureInterface => rw [exec_clearFeatureInterface, serve_eq_stalled rfl]
  case setFeatureInterface => rw [exec_setFeatureInterface, serve_eq_stalled rfl]
  case synchFrameInterface => rw [exec_synchFrameInterface, serve_eq_stalled rfl]
  case clearFeatureEndpoint => rw [exec_clearFeatureEndpoint, serve_eq_stalled rfl]
  case setFeatureEndpoint => rw [exec_setFeatureEndpoint, serve_eq_stalled rfl]
  case synchFrameEndpoint => rw [exec_synchFrameEndpoint, serve_eq_stalled rfl]

end Sys2Proof.Machine

/-! The descriptor lookup of the GET_DESCRIPTOR rows (42_std_device.md R92, 43_std_interface_endpoint.md R100). -/

namespace Sys2Proof.Machine

theorem descriptorType_eq_ofNat (a : SetupArgs) : a.descriptorType = BitVec.ofNat 8 (a.value.toNat / 256) := by
  apply BitVec.eq_of_toNat_eq
  rw [SetupArgs.descriptorType, toNat_highByte, BitVec.toNat_ofNat]
  omega

theorem descriptorReply_of_found {a : SetupArgs} {s : State} {bytes : List Byte}
    (h : describe s.params.desc (BitVec.ofNat 8 (a.value.toNat / 256)) = .found bytes) :
    descriptorReply a s = .reply (.data bytes) s := by
  simp only [descriptorReply, descriptorType_eq_ofNat, h]

theorem descriptorReply_of_unsupported {a : SetupArgs} {s : State}
    (h : describe s.params.desc (BitVec.ofNat 8 (a.value.toNat / 256)) = .unsupported) :
    descriptorReply a s = .reply (.stall .unsupportedType) s := by
  simp only [descriptorReply, descriptorType_eq_ofNat, h]

end Sys2Proof.Machine

/-! GET_DESCRIPTOR(interface) (43_std_interface_endpoint.md R100): the branches of its rule. -/

namespace Sys2Proof.Machine

theorem exec_getDescriptorInterface (a : SetupArgs) (s : State) :
    exec (.getDescriptorInterface a) s = serve ruleGetDescriptorInterface a s := rfl

section
variable {a : SetupArgs} {s : State}

theorem ruleGetDescriptorInterface_of_stall (hparam : s.params.ifaceGetDescriptor = .stall) :
    ruleGetDescriptorInterface a s = .reply (.stall .unsupportedRequest) s := by
  rw [ruleGetDescriptorInterface, if_pos hparam]

theorem ruleGetDescriptorInterface_of_index_ne (hparam : s.params.ifaceGetDescriptor = .serve)
    (hindex : a.index ≠ 0x0000) : ruleGetDescriptorInterface a s = .reply (.stall .invalidIndex) s := by
  rw [ruleGetDescriptorInterface, hparam, if_neg (by decide), if_neg (mt (ifIndexOk_iff a).1 hindex)]

theorem ruleGetDescriptorInterface_of_serve (hparam : s.params.ifaceGetDescriptor = .serve)
    (hindex : a.index = 0x0000) : ruleGetDescriptorInterface a s = descriptorReply a s := by
  rw [ruleGetDescriptorInterface, hparam, if_neg (by decide), if_pos ((ifIndexOk_iff a).2 hindex)]

theorem ruleGetDescriptorInterface_of_found {bytes : List Byte} (hparam : s.params.ifaceGetDescriptor = .serve)
    (hindex : a.index = 0x0000)
    (hfound : describe s.params.desc (BitVec.ofNat 8 (a.value.toNat / 256)) = .found bytes) :
    ruleGetDescriptorInterface a s = .reply (.data bytes) s := by
  rw [ruleGetDescriptorInterface_of_serve hparam hindex, descriptorReply_of_found hfound]

theorem ruleGetDescriptorInterface_of_unsupported (hparam : s.params.ifaceGetDescriptor = .serve)
    (hindex : a.index = 0x0000)
    (hunsupported : describe s.params.desc (BitVec.ofNat 8 (a.value.toNat / 256)) = .unsupported) :
    ruleGetDescriptorInterface a s = .reply (.stall .unsupportedType) s := by
  rw [ruleGetDescriptorInterface_of_serve hparam hindex, descriptorReply_of_unsupported hunsupported]

end

/-- Settles O24: the key evaluates; the abort before the dispatch leaves the parameters, so the rule's branch and the
lookup are those of the given state. -/
theorem interfaceDescriptorFollowsTheParameter : Obligations.InterfaceDescriptorFollowsTheParameter := by
  refine ⟨fun a => rfl, fun s a => ?branches⟩
  case branches =>
    rw [exec_getDescriptorInterface]
    refine ⟨fun hparam => ?stall, fun hparam hindex => ?index, fun bytes hparam hindex hfound => ?found,
      fun hparam hindex hunsupported => ?unsupported⟩
    case stall => exact serve_eq_stalled (ruleGetDescriptorInterface_of_stall hparam)
    case index => exact serve_eq_stalled (ruleGetDescriptorInterface_of_index_ne hparam hindex)
    case found => exact serve_eq_replied (ruleGetDescriptorInterface_of_found hparam hindex hfound)
    case unsupported =>
      exact serve_eq_stalled (ruleGetDescriptorInterface_of_unsupported hparam hindex hunsupported)

end Sys2Proof.Machine

/-! SET_CONFIGURATION(interface) and SET_INTERFACE (43_std_interface_endpoint.md R101, R103): one pair of checks, and
the handler around it. -/

namespace Sys2Proof.Machine
open Sys2Proof.Expect

theorem exec_setConfigurationInterface (a : SetupArgs) (s : State) :
    exec (.setConfigurationInterface a) s = serve ruleSetConfigurationInterface a s := rfl

theorem exec_setInterface (a : SetupArgs) (s : State) :
    exec (.setInterface a) s = serve ruleSetInterface a s := rfl

theorem valueIsZero_iff (a : SetupArgs) : a.valueIsZero = true ↔ a.value = 0x0000 := by
  simp [SetupArgs.valueIsZero]

/-- What the two rules share: `s` refused on an index or a value other than 0, else `u` accepted. -/
def zeroChecked (a : SetupArgs) (s u : State) : RuleResult :=
  if !a.ifIndexOk then .reply (.stall .invalidIndex) s
  else if !a.valueIsZero then .reply (.stall .invalidValue) s
  else .reply (.noData none) u

theorem ruleSetConfigurationInterface_eq (a : SetupArgs) (s : State) :
    ruleSetConfigurationInterface a s = zeroChecked a s s := rfl

theorem ruleSetInterface_eq (a : SetupArgs) (s : State) :
    ruleSetInterface a s = zeroChecked a s { s with interfaceAlt := 0 } := rfl

section
variable {a : SetupArgs} {s u : State}

theorem zeroChecked_of_index_ne (hindex : a.index ≠ 0x0000) :
    zeroChecked a s u = .reply (.stall .invalidIndex) s := by
  have hcheck : a.ifIndexOk = false := Bool.eq_false_iff.2 (mt (ifIndexOk_iff a).1 hindex)
  rw [zeroChecked, hcheck]
  rfl

theorem zeroChecked_of_value_ne (hindex : a.index = 0x0000) (hvalue : a.value ≠ 0x0000) :
    zeroChecked a s u = .reply (.stall .invalidValue) s := by
  have hcheck : a.valueIsZero = false := Bool.eq_false_iff.2 (mt (valueIsZero_iff a).1 hvalue)
  rw [zeroChecked, (ifIndexOk_iff a).2 hindex, hcheck]
  rfl

theorem zeroChecked_of_zero (hindex : a.index = 0x0000) (hvalue : a.value = 0x0000) :
    zeroChecked a s u = .reply (.noData none) u := by
  rw [zeroChecked, (ifIndexOk_iff a).2 hindex, (valueIsZero_iff a).2 hvalue]
  rfl

theorem serve_of_zeroChecked {rule : Rule} (hrule : rule a (abortTransfer s) = zeroChecked a (abortTransfer s) u)
    (hfree : u.ep0In = none) :
    serve rule a s
      = .next (if a.index = 0x0000 ∧ a.value = 0x0000 then { u with ep0In := some [], ctlStage := .statusIn }
          else stalled s) := by
  by_cases hindex : a.index = 0x0000
  case neg =>
    rw [serve_eq_stalled (hrule.trans (zeroChecked_of_index_ne hindex)), if_neg fun h => hindex h.1]
  case pos =>
    by_cases hvalue : a.value = 0x0000
    case neg =>
      rw [serve_eq_stalled (hrule.trans (zeroChecked_of_value_ne hindex hvalue)), if_neg fun h => hvalue h.2]
    case pos =>
      rw [serve_noData_none (hrule.trans (zeroChecked_of_zero hindex hvalue)) hfree, if_pos ⟨hindex, hvalue⟩]

end

/-- Settles O25: the keys evaluate; both rules are the same two checks, and only SET_INTERFACE writes a register. -/
theorem interfaceSettingsAcceptOnlyZero : Obligations.InterfaceSettingsAcceptOnlyZero := by
  refine ⟨fun a => ⟨rfl, rfl⟩, fun s a => ⟨?setConfiguration, ?setInterface⟩⟩
  case setConfiguration =>
    rw [exec_setConfigurationInterface]
    exact serve_of_zeroChecked (ruleSetConfigurationInterface_eq a _) rfl
  case setInterface =>
    rw [exec_setInterface]
    exact serve_of_zeroChecked (ruleSetInterface_eq a _) rfl

end Sys2Proof.Machine

/-! GET_PROTOCOL, SET_REPORT and SET_PROTOCOL (44_hid_class.md R111, R112, R114), and UNRECOGNIZED
(41_control_transfer.md R85). -/

namespace Sys2Proof.Machine

theorem exec_getProtocol (a : SetupArgs) (s : State) :
    exec (.getProtocol a) s = serve ruleGetProtocol a s := rfl

theorem exec_setReport (a : SetupArgs) (s : State) :
    exec (.setReport a) s = serve ruleSetReport a s := rfl

theorem exec_setProtocol (a : SetupArgs) (s : State) :
    exec (.setProtocol a) s = serve ruleSetProtocol a s := rfl

theorem exec_unrecognized (t r : Byte) (a : SetupArgs) (s : State) :
    exec (.unrecognized t r a) s = serve ruleUnrecognized a s := rfl

/-- Settles O26: the keys evaluate, row 27's for every pair of bytes, and each rule is a stall whatever its operands
and the state. -/
theorem unsupportedClassAndUnrecognizedRequestsStall :
    Obligations.UnsupportedClassAndUnrecognizedRequestsStall := by
  refine ⟨fun a => ⟨rfl, rfl, rfl, fun t r => rfl⟩, fun s a t r => ⟨?getProtocol, ?setReport, ?setProtocol,
    ?unrecognized⟩⟩
  case getProtocol => rw [exec_getProtocol, serve_eq_stalled rfl]
  case setReport => rw [exec_setReport, serve_eq_stalled rfl]
  case setProtocol => rw [exec_setProtocol, serve_eq_stalled rfl]
  case unrecognized => rw [exec_unrecognized, serve_eq_stalled rfl]

end Sys2Proof.Machine

/-! SET_IDLE (44_hid_class.md R113): the branches of its rule. -/

namespace Sys2Proof.Machine

theorem exec_setIdle (a : SetupArgs) (s : State) : exec (.setIdle a) s = serve ruleSetIdle a s := rfl

/-- The rate and the descriptor type are the same byte of wValue. -/
theorem idleRate_eq_ofNat (a : SetupArgs) : a.idleRate = BitVec.ofNat 8 (a.value.toNat / 256) :=
  descriptorType_eq_ofNat a

section
variable {a : SetupArgs} {s : State}

theorem ruleSetIdle_of_index_zero (hindex : a.index = 0x0000) :
    ruleSetIdle a s
      = .reply (.noData none) { s with idleRate := BitVec.ofNat 8 (a.value.toNat / 256) } := by
  rw [ruleSetIdle, if_pos ((ifIndexOk_iff a).2 hindex), idleRate_eq_ofNat]

theorem ruleSetIdle_of_index_ne (hindex : a.index ≠ 0x0000) :
    ruleSetIdle a s = .reply (.stall .invalidIndex) s := by
  rw [ruleSetIdle, if_neg (mt (ifIndexOk_iff a).1 hindex)]

end

/-- Settles O28: the key evaluates; the rule's one check selects between the stored rate, with the status packet armed
over the bank the abort has emptied, and a stall. -/
theorem setIdleStoresTheHighByte : Obligations.SetIdleStoresTheHighByte := by
  refine ⟨fun a => rfl, fun s a => ?branches⟩
  case branches =>
    rw [exec_setIdle]
    split
    case isTrue hindex => exact serve_noData_none (ruleSetIdle_of_index_zero hindex) rfl
    case isFalse hindex => exact serve_eq_stalled (ruleSetIdle_of_index_ne hindex)

end Sys2Proof.Machine

/-! IN_READY(1) (45_report_endpoint.md R115, R117, R118): the report armed for a sample, and its bits. -/

namespace Sys2Proof.Machine

theorem exec_inReady1 (s : State) : exec .inReady1 s = execInReady1 s := rfl

theorem ep1BankFree_iff (s : State) :
    ep1BankFree s = true ↔ s.ep1Active = true ∧ s.ep1Banks.length < s.params.ep1Banks := by
  rw [ep1BankFree, Bool.and_eq_true, decide_eq_true_eq]

theorem execInReady1_of_free {s : State} (hfree : ep1BankFree s = true) :
    execInReady1 s
      = .next { drawReport s with ep1Banks := s.ep1Banks ++ [(drawReport s).lastReport] } := by
  obtain ⟨-, harmed⟩ | ⟨hfull, -⟩ := execInReady1_cases s
  case inl => exact harmed
  case inr => rw [hfree] at hfull; cases hfull

theorem drawReport_of_sample {s : State} {d : Snapshot} (hsample : s.sampler = some d) :
    drawReport s = { s with lastReport := pack d } := by
  simp only [drawReport, sample, hsample]

/-! ### The bits of a packed snapshot -/

section
variable (d : Snapshot)

theorem pack_b0_getLsbD_of_lt {k : Nat} (hk : k < 4) : (pack d).b0.getLsbD k = d.hat.getLsbD k := by
  have hbyte : k < 8 := by omega
  simp [pack, hbyte]

theorem pack_b0_getLsbD_of_ge {k : Nat} (hk : 4 ≤ k) : (pack d).b0.getLsbD k = false := by
  simp [pack, BitVec.getLsbD_of_ge d.hat k hk]

theorem pack_b1_getLsbD_of_lt {k : Nat} (hk : k < 8) : (pack d).b1.getLsbD k = d.buttons.getLsbD k := by
  simp [pack, hk]

theorem pack_b2_getLsbD_of_lt {k : Nat} (hk : k < 2) :
    (pack d).b2.getLsbD k = d.buttons.getLsbD (8 + k) := by
  have hbyte : k < 8 := by omega
  simp [pack, hbyte, hk]

theorem pack_b2_getLsbD_of_ge {k : Nat} (hk : 2 ≤ k) : (pack d).b2.getLsbD k = false := by
  simp [pack, BitVec.getLsbD_of_ge (d.buttons.extractLsb' 8 2) k hk]

end

/-- Settles O33: with a bank free the event arms the drawn report, and with a sample the draw is its packing, whose
bits are the snapshot's. -/
theorem reportCarriesTheSampleBitForBit : Obligations.ReportCarriesTheSampleBitForBit := by
  intro s t d hsample hactive hbank hexec
  rw [exec_inReady1, execInReady1_of_free ((ep1BankFree_iff s).2 ⟨hactive, hbank⟩),
    drawReport_of_sample hsample] at hexec
  cases hexec
  exact ⟨pack d, rfl, rfl, fun _ => pack_b0_getLsbD_of_lt d, fun _ => pack_b0_getLsbD_of_ge d,
    fun _ => pack_b1_getLsbD_of_lt d, fun _ => pack_b2_getLsbD_of_lt d, fun _ => pack_b2_getLsbD_of_ge d⟩

end Sys2Proof.Machine

/-! The host's bus table (60_exceptions.md R135): the branches of each action, and the row each one is. -/

namespace Sys2Proof.Machine
open Sys2Proof.Expect

/-! ### R135's `ok(a)` -/

theorem answersTo_iff (a : UsbAddr) (s : State) : answersTo a s = true ↔ Ok a s := by
  simp only [answersTo, Ok, Bool.and_eq_true, Bool.not_eq_true', beq_iff_eq, and_assoc]

/-- An endpoint, `enabled` or not, gives no handshake to `a` where the device does not answer `a` or the endpoint is
off. -/
theorem answersTo_and_eq_false_iff (a : UsbAddr) (s : State) (enabled : Bool) :
    (answersTo a s && enabled) = false ↔ ¬ Ok a s ∨ enabled = false := by
  rw [Bool.and_eq_false_iff, ← Bool.not_eq_true (answersTo a s), answersTo_iff]

theorem answersTo_and_eq_true {a : UsbAddr} {s : State} {enabled : Bool} (hok : Ok a s) (h : enabled = true) :
    (answersTo a s && enabled) = true :=
  Bool.and_eq_true_iff.2 ⟨(answersTo_iff a s).2 hok, h⟩

/-! ### SETUP to endpoint 0 -/

section
variable {a : UsbAddr} {s : State}

/-- A SETUP packet is 8 bytes; the peripheral drops any other. -/
theorem hostSetup_of_length_ne {b : List Byte} (hlength : b.length ≠ 8) :
    hostSetup a b s = (s, .noHandshake) := by
  unfold hostSetup
  split
  case isFalse => rfl
  case isTrue =>
    split
    case h_1 => exact absurd rfl hlength
    case h_2 => rfl

theorem hostSetup_of_answered (b : Vector Byte 8) (hanswered : (answersTo a s && s.ep0Enabled) = true) :
    hostSetup a b.toList s = ({ s with setupLatch := b, setupRd := 0, flagSetup := true }, .ack) := by
  obtain ⟨⟨bytes⟩, hsize⟩ := b
  unfold hostSetup
  rw [if_pos hanswered]
  match bytes, hsize with
  | [_, _, _, _, _, _, _, _], _ => rfl

/-! ### IN to endpoint 0 -/

theorem hostIn0_of_flagSetup (hanswered : (answersTo a s && s.ep0Enabled) = true) (hsetup : s.flagSetup = true) :
    hostIn0 a s = (s, .nak) := by
  simp [hostIn0, hanswered, hsetup]

theorem hostIn0_of_stall (hanswered : (answersTo a s && s.ep0Enabled) = true) (hsetup : s.flagSetup = false)
    (hstall : s.ep0Stall = true) : hostIn0 a s = (s, .stall) := by
  simp [hostIn0, hanswered, hsetup, hstall]

/-- With no SETUP to service and no STALL asked for, the bank decides. -/
theorem hostIn0_of_packet {p : List Byte} (hanswered : (answersTo a s && s.ep0Enabled) = true)
    (hsetup : s.flagSetup = false) (hstall : s.ep0Stall = false) (hpacket : s.ep0In = some p) :
    hostIn0 a s = ({ s with ep0In := none, flagIn0 := true }, .data p) := by
  simp [hostIn0, hanswered, hsetup, hstall, hpacket]

theorem hostIn0_of_no_packet (hanswered : (answersTo a s && s.ep0Enabled) = true)
    (hsetup : s.flagSetup = false) (hstall : s.ep0Stall = false) (hpacket : s.ep0In = none) :
    hostIn0 a s = (s, .nak) := by
  simp [hostIn0, hanswered, hsetup, hstall, hpacket]

/-! ### OUT to endpoint 0 -/

theorem hostOut0_of_oversize {d : List Byte} (hsize : s.params.ep0Size < d.length) :
    hostOut0 a d s = (s, .noHandshake) := by
  simp [hostOut0, hsize]

theorem hostOut0_of_answered {d : List Byte} (hanswered : (answersTo a s && s.ep0Enabled) = true)
    (hsize : d.length ≤ s.params.ep0Size) :
    hostOut0 a d s
      = if s.flagSetup = true then (s, .nak)
        else if s.ep0Stall = true then (s, .stall)
        else if s.flagOut0 = true then (s, .nak)
        else ({ s with out0Latch := d, flagOut0 := true }, .ack) := by
  simp [hostOut0, hanswered, Nat.not_lt.2 hsize]

/-! ### IN to endpoint 1 -/

theorem hostIn1_of_report {r : Report} {rest : List Report} (hanswered : (answersTo a s && s.ep1Active) = true)
    (hbanks : s.ep1Banks = r :: rest) : hostIn1 a s = ({ s with ep1Banks := rest }, .data r.bytes) := by
  simp [hostIn1, hanswered, hbanks]

theorem hostIn1_of_no_report (hanswered : (answersTo a s && s.ep1Active) = true) (hbanks : s.ep1Banks = []) :
    hostIn1 a s = (s, .nak) := by
  simp [hostIn1, hanswered, hbanks]

end

/-! ### The host step of each action -/

/-- The RESET gets no answer, so nothing is recorded. -/
theorem hostStep_reset (s : State) : hostStep .reset s = hostReset s := by
  simp only [hostStep, busAction, Option.toList_none, List.append_nil]

section
variable {a : UsbAddr} {s t : State} {r : Answer}

/-- The answer is recorded in the state the action left. -/
theorem hostStep_eq_heard_after {x : HostAction} (h : busAction x s = (t, some r)) : hostStep x s = heard r t := by
  rw [hostStep, h]
  rfl

theorem hostStep_setup {b : List Byte} (h : hostSetup a b s = (t, r)) : hostStep (.setup a b) s = heard r t :=
  hostStep_eq_heard_after (by simp only [busAction, h])

theorem hostStep_inToken_zero (h : hostIn0 a s = (t, r)) : hostStep (.inToken a 0) s = heard r t :=
  hostStep_eq_heard_after (by simp only [busAction, if_true, h])

theorem hostStep_inToken_one (h : hostIn1 a s = (t, r)) : hostStep (.inToken a 1) s = heard r t := by
  have hne : (1 : BitVec 4) ≠ 0 := by decide
  exact hostStep_eq_heard_after (by simp only [busAction, if_neg hne, if_true, h])

theorem hostStep_inToken_absent {e : BitVec 4} (h0 : e ≠ 0) (h1 : e ≠ 1) :
    hostStep (.inToken a e) s = heard .noHandshake s :=
  hostStep_eq_heard (by simp only [busAction, if_neg h0, if_neg h1])

theorem hostStep_outPacket_zero {d : List Byte} (h : hostOut0 a d s = (t, r)) :
    hostStep (.outPacket a 0 d) s = heard r t :=
  hostStep_eq_heard_after (by simp only [busAction, if_true, h])

theorem hostStep_outPacket_absent {e : BitVec 4} (d : List Byte) (h : e ≠ 0) :
    hostStep (.outPacket a e d) s = heard .noHandshake s :=
  hostStep_eq_heard (by simp only [busAction, if_neg h])

/-! ### Rows with more than one condition -/

theorem hostStep_setup_refused {b : List Byte} (h : ¬ Ok a s ∨ s.ep0Enabled = false ∨ b.length ≠ 8) :
    hostStep (.setup a b) s = heard .noHandshake s := by
  rw [← or_assoc, ← answersTo_and_eq_false_iff] at h
  obtain hunanswered | hlength := h
  · exact hostStep_setup_of_unanswered b hunanswered
  · exact hostStep_setup (hostSetup_of_length_ne hlength)

theorem hostStep_outPacket_zero_refused {d : List Byte}
    (h : ¬ Ok a s ∨ s.ep0Enabled = false ∨ s.params.ep0Size < d.length) :
    hostStep (.outPacket a 0 d) s = heard .noHandshake s := by
  rw [← or_assoc, ← answersTo_and_eq_false_iff] at h
  obtain hunanswered | hsize := h
  · exact hostStep_outPacket_of_unanswered 0 d hunanswered
  · exact hostStep_outPacket_zero (hostOut0_of_oversize hsize)

/-- The four rows of an OUT that endpoint 0 can take. -/
theorem hostStep_outPacket_zero_answered {d : List Byte} (hanswered : (answersTo a s && s.ep0Enabled) = true)
    (hsize : d.length ≤ s.params.ep0Size) :
    hostStep (.outPacket a 0 d) s
      = if s.flagSetup = true then heard .nak s
        else if s.ep0Stall = true then heard .stall s
        else if s.flagOut0 = true then heard .nak s
        else heard .ack { s with out0Latch := d, flagOut0 := true } := by
  have hrow := hostOut0_of_answered hanswered hsize
  split_ifs at hrow ⊢ <;> exact hostStep_outPacket_zero hrow

end

/-- Settles O36: each row's conditions select a branch of its action, and the host step records that branch's
answer. -/
theorem hostBusTable : Obligations.HostBusTable := by
  intro s a
  refine ⟨hostStep_reset s, fun b => hostStep_setup_refused, ?setup, ?in0Off, ?in0Setup, ?in0Stall, ?in0Packet,
    ?in0Empty, ?out0, ?in1Off, ?in1Report, ?in1Empty, fun e => hostStep_inToken_absent,
    fun e d => hostStep_outPacket_absent d⟩
  case setup => exact fun b hok hon => hostStep_setup (hostSetup_of_answered b (answersTo_and_eq_true hok hon))
  case in0Off =>
    exact fun hoff => hostStep_inToken_zero (hostIn0_of_unanswered ((answersTo_and_eq_false_iff a s _).2 hoff))
  case in0Setup =>
    exact fun hok hon hsetup => hostStep_inToken_zero (hostIn0_of_flagSetup (answersTo_and_eq_true hok hon) hsetup)
  case in0Stall =>
    exact fun hok hon hsetup hstall =>
      hostStep_inToken_zero (hostIn0_of_stall (answersTo_and_eq_true hok hon) hsetup hstall)
  case in0Packet =>
    exact fun p hok hon hsetup hstall hpacket =>
      hostStep_inToken_zero (hostIn0_of_packet (answersTo_and_eq_true hok hon) hsetup hstall hpacket)
  case in0Empty =>
    exact fun hok hon hsetup hstall hpacket =>
      hostStep_inToken_zero (hostIn0_of_no_packet (answersTo_and_eq_true hok hon) hsetup hstall hpacket)
  case out0 =>
    exact fun d => ⟨hostStep_outPacket_zero_refused, fun hok hon =>
      hostStep_outPacket_zero_answered (answersTo_and_eq_true hok hon)⟩
  case in1Off =>
    exact fun hoff => hostStep_inToken_one (hostIn1_of_unanswered ((answersTo_and_eq_false_iff a s _).2 hoff))
  case in1Report =>
    exact fun r rest hok hon hbanks =>
      hostStep_inToken_one (hostIn1_of_report (answersTo_and_eq_true hok hon) hbanks)
  case in1Empty =>
    exact fun hok hon hbanks => hostStep_inToken_one (hostIn1_of_no_report (answersTo_and_eq_true hok hon) hbanks)

end Sys2Proof.Machine

/-! POWER_ON with admitted parameters (70_reset_and_hazards.md R138, R139): the state it answers. -/

namespace Sys2Proof.Machine

theorem exec_powerOn (s : State) : exec .powerOn s = execPowerOn s := rfl

/-- The converse of `execPowerOn_next`: admission is all that POWER_ON asks for. -/
theorem execPowerOn_of_admitted {s : State} (hadmitted : Admitted s.params) :
    execPowerOn s
      = .next { resetItems s with
          padEnabled := true, usbEnabled := true, busIntEnabled := true, comIntEnabled := true,
          attached := true } := by
  have hnone : rejection s.params = none := hadmitted
  simp only [execPowerOn, hnone]

/-- Settles O12: reset has the three power-on items off; the state POWER_ON answers is `resetItems` with the five
enables on, and each item is read off that record. -/
theorem powerOnSetsTheResetValues : Obligations.PowerOnSetsTheResetValues := by
  refine ⟨?off, fun s hadmitted => ⟨_, (exec_powerOn s).trans (execPowerOn_of_admitted hadmitted), ?items⟩⟩
  case off => exact ⟨rfl, rfl, rfl⟩
  case items => simp only [resetItems, State.reset, and_self]

end Sys2Proof.Machine

/-! Request packets (30_encoding.md R58, R62): which instruction a packet makes, and its way through the encoder and
back. -/

namespace Sys2Proof

/-! ### The decoder on eight bytes -/

/-- The decoder reads a packet's key from its first two bytes and its fields low byte first. -/
theorem decode_packet (t r b2 b3 b4 b5 b6 b7 : Byte) :
    decode [t, r, b2, b3, b4, b5, b6, b7] = .instr (requestOf ⟨t, r, ⟨b3 ++ b2, b5 ++ b4, b7 ++ b6⟩⟩) := rfl

theorem decode_encodeRequest (t r : Byte) (a : SetupArgs) :
    decode (encodeRequest t r a) = .instr (requestOf ⟨t, r, a⟩) := by
  rw [encodeRequest, decode]
  simp only [parseSetup, le16_lowByte_highByte]

theorem encodeRequest_parseSetup (b0 b1 b2 b3 b4 b5 b6 b7 : Byte) :
    encodeRequest b0 b1 (parseSetup b0 b1 b2 b3 b4 b5 b6 b7).args = [b0, b1, b2, b3, b4, b5, b6, b7] := by
  simp only [encodeRequest, parseSetup, lowByte_le16, highByte_le16]

/-- What decodes is one event word or one packet of eight bytes. -/
theorem decode_eq_instr_cases {bytes : List Byte} {i : Instr} (h : decode bytes = .instr i) :
    (∃ w, bytes = [w] ∧ eventOf w = some i) ∨
    ∃ p, bytes = encodeRequest p.requestType p.request p.args ∧ requestOf p = i := by
  unfold decode at h
  split at h
  case h_1 w =>
    split at h
    case h_1 hw =>
      cases h
      exact .inl ⟨w, rfl, hw⟩
    case h_2 => cases h
  case h_2 b0 b1 b2 b3 b4 b5 b6 b7 =>
    exact .inr ⟨parseSetup b0 b1 b2 b3 b4 b5 b6 b7, (encodeRequest_parseSetup b0 b1 b2 b3 b4 b5 b6 b7).symm,
      Decoded.instr.inj h⟩
  case h_3 => cases h

/-! ### The rows of the dispatch map -/

theorem requestRows_keys : requestRows.map (fun row => (row.requestType, row.request)) = recognizedKeys := rfl

/-- Each row's instruction is a request, well formed, and encoded with the row's key. -/
theorem requestRows_make :
    ∀ row ∈ requestRows, ∀ a, (row.make a).isEvent = false ∧ (row.make a).wf = true ∧
      encode (row.make a) = encodeRequest row.requestType row.request a := by
  simp [requestRows, Instr.isEvent, Instr.wf, encode]

/-- A packet makes the instruction of a row with its key, or row 27's where no row has it. -/
theorem requestOf_cases (p : SetupPacket) :
    (∃ row ∈ requestRows, row.requestType = p.requestType ∧ row.request = p.request ∧
      requestOf p = row.make p.args) ∨
    ((p.requestType, p.request) ∉ recognizedKeys ∧
      requestOf p = .unrecognized p.requestType p.request p.args) := by
  unfold requestOf
  split
  case h_1 row hfind =>
    have hkey := List.find?_some hfind
    rw [Bool.and_eq_true, beq_iff_eq, beq_iff_eq] at hkey
    exact .inl ⟨row, List.mem_of_find?_eq_some hfind, hkey.1, hkey.2, rfl⟩
  case h_2 hfind =>
    refine .inr ⟨fun hmem => ?_, rfl⟩
    rw [← requestRows_keys, List.mem_map] at hmem
    obtain ⟨row, hrow, hkey⟩ := hmem
    rw [Prod.mk.injEq] at hkey
    exact List.find?_eq_none.1 hfind row hrow (by rw [hkey.1, hkey.2, BEq.rfl, BEq.rfl, Bool.and_self])

theorem requestOf_of_notMem {t r : Byte} (h : (t, r) ∉ recognizedKeys) (a : SetupArgs) :
    requestOf ⟨t, r, a⟩ = .unrecognized t r a := by
  obtain ⟨row, hrow, htype, hrequest, -⟩ | ⟨-, hrow27⟩ := requestOf_cases ⟨t, r, a⟩
  case inl =>
    refine absurd ?_ h
    rw [← requestRows_keys, List.mem_map]
    exact ⟨row, hrow, Prod.ext htype hrequest⟩
  case inr => exact hrow27

theorem unrecognized_wf_iff (t r : Byte) (a : SetupArgs) :
    (Instr.unrecognized t r a).wf = true ↔ (t, r) ∉ recognizedKeys := by
  simp [Instr.wf]

/-- No packet makes an event. -/
theorem requestOf_isEvent (p : SetupPacket) : (requestOf p).isEvent = false := by
  obtain ⟨row, hrow, -, -, hmake⟩ | ⟨-, hrow27⟩ := requestOf_cases p
  case inl => rw [hmake, (requestRows_make row hrow p.args).1]
  case inr => rw [hrow27]; rfl

theorem requestOf_wf (p : SetupPacket) : (requestOf p).wf = true := by
  obtain ⟨row, hrow, -, -, hmake⟩ | ⟨hkey, hrow27⟩ := requestOf_cases p
  case inl => rw [hmake, (requestRows_make row hrow p.args).2.1]
  case inr => rw [hrow27, unrecognized_wf_iff]; exact hkey

theorem encode_requestOf (p : SetupPacket) :
    encode (requestOf p) = encodeRequest p.requestType p.request p.args := by
  obtain ⟨row, hrow, htype, hrequest, hmake⟩ | ⟨-, hrow27⟩ := requestOf_cases p
  case inl => rw [hmake, (requestRows_make row hrow p.args).2.2, htype, hrequest]
  case inr => rw [hrow27, encode]

theorem encode_eventOf {w : Byte} {i : Instr} (h : eventOf w = some i) : i.wf = true ∧ encode i = [w] := by
  obtain ⟨rfl, rfl⟩ | ⟨rfl, rfl⟩ | ⟨rfl, rfl⟩ | ⟨rfl, rfl⟩ | ⟨rfl, rfl⟩ | ⟨rfl, rfl⟩ := eventOf_eq_some_cases h <;>
    exact ⟨rfl, rfl⟩

/-! ### The obligations -/

/-- Where a packet of the key makes `i`, `i`'s packet decodes to `i`. -/
theorem decode_encodeRequest_of_requestOf {t r : Byte} {a : SetupArgs} {i : Instr} (h : requestOf ⟨t, r, a⟩ = i) :
    decode (encodeRequest t r a) = .instr i := by
  rw [decode_encodeRequest, h]

/-- Settles O1: an event's word evaluates; a row's packet finds its own row first, as no two rows share a key; a well
formed row-27 packet finds no row. -/
theorem decodeOfEncodeIsTheInstruction : Obligations.DecodeOfEncodeIsTheInstruction := by
  intro i hwf
  cases i
  case unrecognized t r a =>
    exact decode_encodeRequest_of_requestOf (requestOf_of_notMem ((unrecognized_wf_iff t r a).1 hwf) a)
  case powerOn | busReset | setupReceived | inReady0 | inReady1 | outReceived0 => rfl
  all_goals exact decode_encodeRequest_of_requestOf rfl

/-- Settles O2: the bytes are an event's word or a packet, and each of the two is what its instruction encodes to. -/
theorem encodeOfDecodeIsTheBytes : Obligations.EncodeOfDecodeIsTheBytes := by
  intro bytes i h
  obtain ⟨w, rfl, hw⟩ | ⟨p, rfl, rfl⟩ := decode_eq_instr_cases h
  case inl => exact encode_eventOf hw
  case inr => exact ⟨requestOf_wf p, encode_requestOf p⟩

/-- Settles O3: a packet of each row's key evaluates to the row's request, and the keys outside the list are those of
no row. -/
theorem requestKeysSelectTheirRow : Obligations.RequestKeysSelectTheirRow := by
  intro b2 b3 b4 b5 b6 b7 a packet
  have hpacket : ∀ t r, packet t r = .instr (requestOf ⟨t, r, a⟩) := fun t r => decode_packet t r b2 b3 b4 b5 b6 b7
  simp only [hpacket]
  refine ⟨rfl, rfl, rfl, rfl, rfl, rfl, rfl, rfl, rfl, rfl, rfl, rfl, rfl, rfl, rfl, rfl, rfl, rfl, rfl, rfl, rfl,
    rfl, rfl, rfl, rfl, rfl, fun t r hkey => ?row27⟩
  case row27 => rw [requestOf_of_notMem hkey]

/-- Settles O4: each word evaluates. -/
theorem specWordsDecode : Obligations.SpecWordsDecode :=
  ⟨rfl, rfl, rfl, rfl, rfl, rfl, rfl, rfl, rfl⟩

end Sys2Proof

/-! SET_ADDRESS (42_std_device.md R91): the branches of its rule. -/

namespace Sys2Proof.Machine
open Sys2Proof.Expect

theorem exec_setAddress (a : SetupArgs) (s : State) : exec (.setAddress a) s = serve ruleSetAddress a s := rfl

theorem newAddress_eq_ofNat (a : SetupArgs) : a.newAddress = BitVec.ofNat 7 a.value.toNat := by
  apply BitVec.eq_of_toNat_eq
  rw [SetupArgs.newAddress, BitVec.extractLsb'_toNat, BitVec.toNat_ofNat, Nat.shiftRight_zero]

theorem newAddress_eq_zero_iff (a : SetupArgs) : a.newAddress = 0 ↔ a.value.toNat % 128 = 0 := by
  rw [newAddress_eq_ofNat, ← BitVec.toNat_inj, BitVec.toNat_ofNat]
  rfl

section
variable {a : SetupArgs} {s : State}

theorem ruleSetAddress_of_zero (haddress : a.value.toNat % 128 = 0) :
    ruleSetAddress a s = .reply (.noData none) s := by
  rw [ruleSetAddress, if_pos ((newAddress_eq_zero_iff a).2 haddress)]

theorem ruleSetAddress_of_ne_zero (haddress : a.value.toNat % 128 ≠ 0) :
    ruleSetAddress a s = .reply (.noData (some (BitVec.ofNat 7 a.value.toNat))) s := by
  rw [ruleSetAddress, if_neg (mt (newAddress_eq_zero_iff a).1 haddress), newAddress_eq_ofNat]

theorem exec_setAddress_of_ne_zero (haddress : a.value.toNat % 128 ≠ 0) :
    exec (.setAddress a) s
      = .next { statusArmed s with ctlPaddr := BitVec.ofNat 7 a.value.toNat, paddrValid := true } :=
  serve_noData (ruleSetAddress_of_ne_zero haddress) rfl

end

/-- Settles O19: the key evaluates; address 0 only arms the status packet, another one is kept pending too. -/
theorem setAddressOnlyPendsTheAddress : Obligations.SetAddressOnlyPendsTheAddress := by
  refine ⟨fun a => rfl, fun s a => ?branches⟩
  case branches =>
    split
    case isTrue haddress => exact serve_noData_none (ruleSetAddress_of_zero haddress) rfl
    case isFalse haddress => exact exec_setAddress_of_ne_zero haddress

end Sys2Proof.Machine

/-! GET_DESCRIPTOR(device) (42_std_device.md R92): its rule is the descriptor lookup. -/

namespace Sys2Proof.Machine

theorem exec_getDescriptorDevice (a : SetupArgs) (s : State) :
    exec (.getDescriptorDevice a) s = serve descriptorReply a s := rfl

/-- Settles O20: the key evaluates; a found entry is replied and an unsupported type stalls. -/
theorem getDescriptorAnswersTheStoredEntry : Obligations.GetDescriptorAnswersTheStoredEntry := by
  refine ⟨fun a => rfl, fun s a => ⟨fun bytes hfound => ?found, fun hunsupported => ?unsupported⟩⟩
  case found => rw [exec_getDescriptorDevice, serve_eq_replied (descriptorReply_of_found hfound)]
  case unsupported => rw [exec_getDescriptorDevice, serve_eq_stalled (descriptorReply_of_unsupported hunsupported)]

end Sys2Proof.Machine

/-! GET_CONFIGURATION, GET_INTERFACE and GET_IDLE (42_std_device.md R94, 43_std_interface_endpoint.md R102,
44_hid_class.md R110). -/

namespace Sys2Proof.Machine

theorem exec_getConfiguration (a : SetupArgs) (s : State) :
    exec (.getConfiguration a) s = serve ruleGetConfiguration a s := rfl

theorem exec_getInterface (a : SetupArgs) (s : State) :
    exec (.getInterface a) s = serve ruleGetInterface a s := rfl

theorem exec_getIdle (a : SetupArgs) (s : State) : exec (.getIdle a) s = serve ruleGetIdle a s := rfl

/-- Settles O21: the keys evaluate; the abort leaves the three registers, and the index is all that is checked. -/
theorem storedBytesAreAnswered : Obligations.StoredBytesAreAnswered := by
  refine ⟨fun a => ⟨rfl, rfl, rfl⟩, fun s a => ⟨?configuration, ?interface, ?idle⟩⟩
  case configuration => exact (exec_getConfiguration a s).trans (serve_eq_replied rfl)
  case interface =>
    rw [exec_getInterface]
    exact serve_eq_replied_or_stalled (fun hindex => if_pos ((ifIndexOk_iff a).2 hindex))
      fun hindex => if_neg (mt (ifIndexOk_iff a).1 hindex)
  case idle =>
    rw [exec_getIdle]
    exact serve_eq_replied_or_stalled (fun hindex => if_pos ((ifIndexOk_iff a).2 hindex))
      fun hindex => if_neg (mt (ifIndexOk_iff a).1 hindex)

/-- Settles O44: SET_IDLE leaves the rate in the register, and GET_IDLE answers the register. -/
theorem getIdleAnswersTheRateSet : Obligations.GetIdleAnswersTheRateSet := by
  intro s t a b ha hb hset
  rw [setIdleStoresTheHighByte.2, if_pos ha] at hset
  cases hset
  rw [(storedBytesAreAnswered.2 _ b).2.2, if_pos hb]

end Sys2Proof.Machine

/-! The draw of a report (45_report_endpoint.md R117, R118), and GET_REPORT (44_hid_class.md R109). -/

namespace Sys2Proof.Machine
open Sys2Proof.Expect

/-- The packing's bit fields are the arithmetic ones. -/
theorem pack_eq_reportOf (d : Snapshot) : pack d = reportOf d := by
  have hhat : d.hat.setWidth 8 = BitVec.ofNat 8 d.hat.toNat := (BitVec.ofNat_toNat 8 d.hat).symm
  have hlow : d.buttons.extractLsb' 0 8 = BitVec.ofNat 8 (d.buttons.toNat % 256) := by
    apply BitVec.eq_of_toNat_eq
    rw [BitVec.extractLsb'_toNat, BitVec.toNat_ofNat, Nat.shiftRight_zero]
    omega
  have hhigh : (d.buttons.extractLsb' 8 2).setWidth 8 = BitVec.ofNat 8 (d.buttons.toNat / 256) := by
    apply BitVec.eq_of_toNat_eq
    have hlt := d.buttons.isLt
    rw [BitVec.toNat_setWidth, BitVec.extractLsb'_toNat, BitVec.toNat_ofNat, Nat.shiftRight_eq_div_pow]
    omega
  rw [pack, reportOf, hhat, hlow, hhigh]

theorem drawReport_of_no_sample {s : State} (hsample : s.sampler = none) : drawReport s = s := by
  simp only [drawReport, sample, hsample]

theorem currentReport_of_sample {s : State} {d : Snapshot} (hsample : s.sampler = some d) :
    currentReport s = reportOf d := by
  simp only [currentReport, hsample]

theorem currentReport_of_no_sample {s : State} (hsample : s.sampler = none) : currentReport s = s.lastReport := by
  simp only [currentReport, hsample]

theorem drawReport_lastReport (s : State) : (drawReport s).lastReport = currentReport s := by
  cases hsample : s.sampler with
  | some d => rw [drawReport_of_sample hsample, currentReport_of_sample hsample, ← pack_eq_reportOf]
  | none => rw [drawReport_of_no_sample hsample, currentReport_of_no_sample hsample]

theorem drawReport_eq_currentReport (s : State) : drawReport s = { s with lastReport := currentReport s } := by
  rw [← drawReport_lastReport]
  exact drawReport_eq s

theorem exec_getReport (a : SetupArgs) (s : State) : exec (.getReport a) s = serve ruleGetReport a s := rfl

section
variable {a : SetupArgs} {s : State}

theorem ruleGetReport_of_index_zero (hindex : a.index = 0x0000) :
    ruleGetReport a s
      = .reply (.data [(currentReport s).b0, (currentReport s).b1, (currentReport s).b2])
          { s with lastReport := currentReport s } := by
  rw [ruleGetReport, if_pos ((ifIndexOk_iff a).2 hindex), drawReport_eq_currentReport]
  rfl

theorem ruleGetReport_of_index_ne (hindex : a.index ≠ 0x0000) :
    ruleGetReport a s = .reply (.stall .invalidIndex) s := by
  rw [ruleGetReport, if_neg (mt (ifIndexOk_iff a).1 hindex)]

end

/-- Settles O27: the key evaluates; the abort leaves the sampler and the last report, so the draw is that of the given
state, and the response begins over the bank the abort has emptied. -/
theorem getReportAnswersTheCurrentReport : Obligations.GetReportAnswersTheCurrentReport := by
  refine ⟨fun a => rfl, fun s a => ?branches⟩
  case branches =>
    rw [exec_getReport]
    split
    case isTrue hindex => exact serve_data (ruleGetReport_of_index_zero hindex) rfl
    case isFalse hindex => exact serve_eq_stalled (ruleGetReport_of_index_ne hindex)

/-- Settles O32: the handler arms the drawn report where a bank is free, and passes otherwise. -/
theorem inReadyOneArmsOneReport : Obligations.InReadyOneArmsOneReport := by
  refine ⟨rfl, fun s => ?banks⟩
  case banks =>
    rw [exec_inReady1, ← ep1BankFree_iff]
    refine ⟨fun hfree => ?free, fun hfull => ?full⟩
    case free => rw [execInReady1_of_free hfree, drawReport_eq_currentReport]
    case full =>
      obtain ⟨hfree, -⟩ | ⟨-, hpass⟩ := execInReady1_cases s
      · exact absurd hfree hfull
      · exact hpass

end Sys2Proof.Machine

/-! BUS_RESET (40_enumeration.md R75) by the peripheral's answer to the endpoint-0 configuration. -/

namespace Sys2Proof.Machine
open Sys2Proof.Expect

theorem exec_busReset (s : State) : exec .busReset s = execBusReset s := rfl

theorem cfgOk_ep0Config_iff (p : Params) : cfgOk p (ep0Config p) = true ↔ ep0Accepted p := by
  simp [cfgOk, ep0Config, ep0Accepted]

/-- BUS_RESET asks the peripheral after the registers are written; the parameters it asks with are the given ones. -/
theorem configEp_ep0_busResetRegisters (s : State) :
    configEp (ep0Config s.params) (busResetRegisters s)
      = if cfgOk s.params (ep0Config s.params) then
          (true, { disableEp0 (busResetRegisters s) with ep0Enabled := true })
        else (false, disableEp0 (busResetRegisters s)) :=
  configEp_ep0 (busResetRegisters s)

theorem exec_busReset_of_accepted {s : State} (h : ep0Accepted s.params) :
    exec .busReset s = .next { afterBusReset s with ep0Enabled := true } := by
  rw [exec_busReset, execBusReset, configEp_ep0_busResetRegisters, if_pos ((cfgOk_ep0Config_iff _).2 h)]
  rfl

theorem exec_busReset_of_rejected {s : State} (h : ¬ ep0Accepted s.params) :
    exec .busReset s
      = .next { afterBusReset s with ep0Enabled := false, halted := true, faultCause := .ep0Rejected } := by
  rw [exec_busReset, execBusReset, configEp_ep0_busResetRegisters, if_neg (mt (cfgOk_ep0Config_iff _).1 h)]
  rfl

/-- The two states BUS_RESET can answer. -/
theorem exec_busReset_cases {s t : State} (h : exec .busReset s = .next t) :
    (ep0Accepted s.params ∧ t = { afterBusReset s with ep0Enabled := true }) ∨
    (¬ ep0Accepted s.params ∧
      t = { afterBusReset s with ep0Enabled := false, halted := true, faultCause := .ep0Rejected }) := by
  by_cases haccepted : ep0Accepted s.params
  case pos =>
    rw [exec_busReset_of_accepted haccepted] at h
    exact .inl ⟨haccepted, (Host.Outcome.next.inj h).symm⟩
  case neg =>
    rw [exec_busReset_of_rejected haccepted] at h
    exact .inr ⟨haccepted, (Host.Outcome.next.inj h).symm⟩

/-- Settles O29: the word evaluates; each answer of the peripheral gives one state, which a second reset finds already
reset and with the same answer of the peripheral. -/
theorem busResetReturnsToDefault : Obligations.BusResetReturnsToDefault := by
  refine ⟨rfl, fun s => ⟨exec_busReset_of_accepted, exec_busReset_of_rejected, fun t ht => ?again⟩⟩
  case again =>
    obtain ⟨haccepted, rfl⟩ | ⟨hrejected, rfl⟩ := exec_busReset_cases ht
    case inl => exact exec_busReset_of_accepted haccepted
    case inr => exact exec_busReset_of_rejected hrejected

end Sys2Proof.Machine

/-! IN_READY(0) (41_control_transfer.md R83) by the control stage it finds. -/

namespace Sys2Proof.Machine

theorem exec_inReady0 (s : State) : exec .inReady0 s = execInReady0 s := rfl

section
variable {s : State}

theorem execInReady0_of_dataIn (h : s.ctlStage = .dataIn) :
    execInReady0 s = continueData { s with flagIn0 := false } := by
  simp only [execInReady0, h]

theorem execInReady0_of_statusIn (h : s.ctlStage = .statusIn) :
    execInReady0 s = .next (completeStatus { s with flagIn0 := false }) := by
  simp only [execInReady0, h]

theorem execInReady0_of_no_transfer (h : s.ctlStage = .idle ∨ s.ctlStage = .statusOut) :
    execInReady0 s = .next { s with flagIn0 := false } := by
  obtain h | h := h <;> simp only [execInReady0, h]

/-- The next chunk fits a packet. -/
theorem continueData_of_lt (hfree : s.ep0In = none) (hlt : s.ctlOff.toNat < s.ctlLen.toNat) :
    continueData s
      = .next { s with
          ep0In := some ((s.ctlBuf.drop s.ctlOff.toNat).take
            (min s.params.ep0Size (s.ctlLen.toNat - s.ctlOff.toNat))),
          ctlOff := BitVec.ofNat 16
            (s.ctlOff.toNat + min s.params.ep0Size (s.ctlLen.toNat - s.ctlOff.toNat)) } := by
  rw [continueData, if_pos hlt]
  refine arm0_free .nextChunk hfree ?fits
  case fits =>
    rw [List.length_take]
    exact (Nat.min_le_left _ _).trans (Nat.min_le_left _ _)

theorem continueData_of_owed (hfree : s.ep0In = none) (hdone : ¬ s.ctlOff.toNat < s.ctlLen.toNat)
    (howed : s.zlpOwed = true) : continueData s = .next { s with ep0In := some [], zlpOwed := false } := by
  rw [continueData, if_neg hdone, if_pos howed]
  exact arm0_free .owedZlp hfree (Nat.zero_le _)

theorem continueData_of_done (hdone : ¬ s.ctlOff.toNat < s.ctlLen.toNat) (howed : s.zlpOwed = false) :
    continueData s = .next { s with ctlStage := .statusOut } := by
  rw [continueData, if_neg hdone, if_neg (Bool.eq_false_iff.1 howed)]

theorem completeStatus_of_pending (h : s.paddrValid = true) :
    completeStatus s
      = { s with
          address := s.ctlPaddr, devState := if s.devState = .default then .addressed else s.devState,
          paddrValid := false, ctlStage := .idle } := by
  rw [completeStatus, if_pos h]

theorem completeStatus_of_no_address (h : s.paddrValid = false) :
    completeStatus s = { s with ctlStage := .idle } := by
  rw [completeStatus, if_neg (Bool.eq_false_iff.1 h)]

end

/-- Settles O30: the word evaluates; the stage selects the handler's branch, and in DATA_IN what is left to send
selects the packet. -/
theorem inReadyZeroContinuesTheTransfer : Obligations.InReadyZeroContinuesTheTransfer := by
  refine ⟨rfl, fun s => ?stages⟩
  case stages =>
    rw [exec_inReady0]
    refine ⟨fun hfree hstage hlt => ?chunk, fun hfree hstage hdone howed => ?owed,
      fun hstage hdone howed => ?done, fun hstage hpending => ?address, fun hstage hnone => ?status,
      execInReady0_of_no_transfer⟩
    case chunk => rw [execInReady0_of_dataIn hstage]; exact continueData_of_lt hfree hlt
    case owed => rw [execInReady0_of_dataIn hstage]; exact continueData_of_owed hfree hdone howed
    case done => rw [execInReady0_of_dataIn hstage]; exact continueData_of_done hdone howed
    case address =>
      rw [execInReady0_of_statusIn hstage]
      exact congrArg _ (completeStatus_of_pending hpending)
    case status =>
      rw [execInReady0_of_statusIn hstage]
      exact congrArg _ (completeStatus_of_no_address hnone)

end Sys2Proof.Machine

/-! SETUP_RECEIVED (41_control_transfer.md R78, 30_encoding.md R62): the request its latch decodes to. -/

namespace Sys2Proof.Machine
open Sys2Proof.Expect

theorem exec_setupReceived (s : State) : exec .setupReceived s = execSetupReceived s := rfl

theorem decode_setupLatch (s : State) : decode s.setupLatch.toList = .instr (requestOf (latchedPacket s)) := by
  rw [latchedPacket]
  generalize s.setupLatch = latch
  obtain ⟨⟨bytes⟩, hsize⟩ := latch
  match bytes, hsize with
  | [_, _, _, _, _, _, _, _], _ => rfl

/-- The handler's eight reads give the latched packet, whose row of the dispatch map serves the decoded request. -/
theorem exec_setupReceived_of_start {s : State} (h : s.setupRd = 0) :
    exec .setupReceived s = exec (requestOf (latchedPacket s)) { s with setupRd := 8 } := by
  rw [exec_setupReceived, exec_requestOf, execSetupReceived, readSetup_of_start h]

/-- A SETUP_RECEIVED that answers a next state ran a request from the latch's start. -/
theorem exec_setupReceived_cases {s t : State} (h : exec .setupReceived s = .next t) :
    s.setupRd = 0 ∧ ∃ i, Instr.isEvent i = false ∧ exec i { s with setupRd := 8 } = .next t := by
  have hstart : s.setupRd = 0 := (execSetupReceived_next h).1
  refine ⟨hstart, requestOf (latchedPacket s), requestOf_isEvent _, ?_⟩
  rw [← exec_setupReceived_of_start hstart, h]

/-- Settles O9: the latch decodes to the request of its packet, which the handler runs after its eight reads. -/
theorem setupHandlerRunsTheDecodedRequest : Obligations.SetupHandlerRunsTheDecodedRequest :=
  fun s hstart => ⟨requestOf (latchedPacket s), decode_setupLatch s, requestOf_isEvent _,
    exec_setupReceived_of_start hstart⟩

end Sys2Proof.Machine

/-! POWER_ON as the first step, and its refusals (70_reset_and_hazards.md R138; 20_memory.md R54). -/

namespace Sys2Proof.Machine

theorem step_of_unattached {s : State} (h : s.attached = false) : step s = exec .powerOn s :=
  step_run (nextTurn_unattached h)

/-- Settles O13: reset has the bus line off, and while it is off the next turn is POWER_ON. -/
theorem powerOnIsTheFirstStep : Obligations.PowerOnIsTheFirstStep := ⟨rfl, fun _ => step_of_unattached⟩

/-- Settles O14: POWER_ON looks for the first failed check before anything else. -/
theorem powerOnRefusesOtherParameters : Obligations.PowerOnRefusesOtherParameters := by
  intro s r hrejected
  simp only [exec_powerOn, execPowerOn, hrejected]

end Sys2Proof.Machine

/-! One step after POWER_ON, by the input at the head of the list (40_enumeration.md R73; assumption 2). -/

namespace Sys2Proof.Machine
open Sys2Proof.Expect

/-! ### An injected event word -/

theorem eventOf_of_decode_word {w : Byte} {i : Instr} (h : decode [w] = .instr i) : eventOf w = some i := by
  obtain ⟨v, hv, hevent⟩ | ⟨p, hp, -⟩ := decode_eq_instr_cases h
  case inl => cases hv; exact hevent
  case inr => exact absurd (congrArg List.length hp) (by simp [encodeRequest])

theorem eventOf_of_decode_rejected {w : Byte} {e : DecodeError} (h : decode [w] = .rejected e) :
    eventOf w = none := by
  cases hw : eventOf w with
  | none => rfl
  | some i => rw [decode_word_of_eventOf_eq_some hw] at h; cases h

theorem injectedTurn_of_running {w : Byte} {i : Instr} {s : State} (hw : eventOf w = some i)
    (hrunning : s.halted = false) : injectedTurn w s = .run i s := by
  simp only [injectedTurn, hw, hrunning, Bool.false_and, Bool.false_eq_true, if_false]

/-- Settles O6: an event's word is run, and a word that names none is refused. -/
theorem stepRunsTheInjectedEvent : Obligations.StepRunsTheInjectedEvent := by
  intro s w rest hattached hinputs
  have hturn := nextTurn_event hattached hinputs
  refine ⟨fun i hrunning hdecode => ?run, fun hdecode => ?refuse⟩
  case run => exact step_run (hturn.trans (injectedTurn_of_running (eventOf_of_decode_word hdecode) hrunning))
  case refuse => simp only [step, hturn, injectedTurn, eventOf_of_decode_rejected hdecode]

/-! ### A turn of the engine -/

theorem pendingEvent_of_halted {s : State} (h : s.halted = true) : pendingEvent s = none := by
  rw [pendingEvent, if_pos h]

/-- The statement's order of events is the model's. -/
theorem engineStep_eq {s : State} (hrunning : s.halted = false) :
    engineStep s = match pendingEvent s with
      | some i => exec i s
      | none => .next s := by
  have hfree : (s.ctlStage = .idle ∧ s.ep1Active = true ∧ s.ep1Banks.length < s.params.ep1Banks) ↔
      (decide (s.ctlStage = .idle) && ep1BankFree s) = true := by
    rw [Bool.and_eq_true, decide_eq_true_eq, ep1BankFree_iff]
  have hsetup : (s.flagSetup = true ∧ s.ep0Enabled = true) ↔ (s.flagSetup && s.ep0Enabled) = true := by
    rw [Bool.and_eq_true]
  rw [engineStep, pendingEvent, if_neg (Bool.eq_false_iff.1 hrunning)]
  simp only [hfree, hsetup]
  split_ifs <;> rfl

/-- Where the next turn is the engine's at `u`, the step is the engine's choice of event there. -/
theorem step_of_engineTurn {s u : State} (hturn : nextTurn s = engineTurn u) (hrunning : u.halted = false) :
    step s = engineStep u := by
  rw [engineStep_eq hrunning]
  obtain ⟨i, hpending, hengine⟩ | ⟨hpending, hengine⟩ := engineTurn_cases u
  case inl => rw [step_run (hturn.trans hengine), hpending]
  case inr => rw [step_pass (hturn.trans hengine), hpending]

theorem engineTurn_of_halted {s : State} (h : s.halted = true) : engineTurn s = .pass s := by
  simp only [engineTurn, pendingEvent_of_halted h]

theorem nextTurn_alone_running {s : State} (hattached : s.attached = true) (hinputs : s.inputs = [])
    (hrunning : s.halted = false) : nextTurn s = engineTurn s := by
  rw [nextTurn_alone hattached hinputs, if_neg (Bool.eq_false_iff.1 hrunning)]

theorem step_stuck {s : State} (hattached : s.attached = true) (hinputs : s.inputs = [])
    (hhalted : s.halted = true) : step s = .fault (.halted s.faultCause) := by
  simp only [step, nextTurn_alone hattached hinputs, if_pos hhalted]

/-- Settles O7: with no input the turn is the engine's or stuck, an engine input gives it the turn, and halted it has
no event pending. -/
theorem engineServicesTheFirstPendingEvent : Obligations.EngineServicesTheFirstPendingEvent := by
  intro s hattached
  refine ⟨step_stuck hattached, fun hinputs hrunning => ?alone, fun rest hinputs hhalted => ?halted,
    fun rest hinputs hrunning => ?turn⟩
  case alone => exact step_of_engineTurn (nextTurn_alone_running hattached hinputs hrunning) hrunning
  case halted => exact step_pass ((nextTurn_engine hattached hinputs).trans (engineTurn_of_halted hhalted))
  case turn => exact step_of_engineTurn (nextTurn_engine hattached hinputs) hrunning

theorem engineStep_of_setup {s : State} (hreset : s.flagBusReset = false) (hsetup : s.flagSetup = true)
    (henabled : s.ep0Enabled = true) : engineStep s = exec .setupReceived s := by
  rw [engineStep, if_neg (Bool.eq_false_iff.1 hreset), if_pos ⟨hsetup, henabled⟩]

/-- Settles O8: the engine's step is SETUP_RECEIVED, which runs the one request the latch decodes to. -/
theorem stepRunsTheLatchedRequest : Obligations.StepRunsTheLatchedRequest := by
  intro s i hattached hinputs hrunning hreset hsetup henabled hstart hdecode
  obtain ⟨j, hj, -, hexec⟩ := setupHandlerRunsTheDecodedRequest s hstart
  have hij : j = i := Decoded.instr.inj (hj.symm.trans hdecode)
  rw [(engineServicesTheFirstPendingEvent s hattached).2.1 hinputs hrunning,
    engineStep_of_setup hreset hsetup henabled, hexec, hij]

/-! ### A host action and a sample -/

/-- Settles O34: a host action at the head of the inputs passes the turn. -/
theorem hostMovesAreTakenInEveryState : Obligations.HostMovesAreTakenInEveryState :=
  fun _ _ _ hattached hinputs => step_pass (nextTurn_host hattached hinputs)

/-- Settles O35: a sample passes the turn with the sampler set, and a draw reads the sampler. -/
theorem sampleInputSetsWhatSampleAnswers : Obligations.SampleInputSetsWhatSampleAnswers := by
  intro s d rest hattached hinputs
  have hstep := step_pass (nextTurn_sample hattached hinputs)
  refine ⟨hstep, fun t ht => ?draw⟩
  case draw =>
    rw [hstep] at ht
    cases ht
    rfl

end Sys2Proof.Machine

/-! A word placed by `withFetchWord` (assumption 7). -/

namespace Sys2Proof.Machine
open Sys2Proof.Expect

theorem decode_of_decodeTableWord {nbits w : Nat} {i : Instr} (h : decodeTableWord nbits w = some i) :
    decode (tableBytes nbits w) = .instr i := by
  unfold decodeTableWord at h
  split at h
  case h_1 hdecode => rw [hdecode, Option.some.inj h]
  case h_2 => cases h

theorem eventOf_isEvent {w : Byte} {i : Instr} (h : eventOf w = some i) : i.isEvent = true := by
  obtain ⟨-, rfl⟩ | ⟨-, rfl⟩ | ⟨-, rfl⟩ | ⟨-, rfl⟩ | ⟨-, rfl⟩ | ⟨-, rfl⟩ := eventOf_eq_some_cases h <;> rfl

theorem eventOf_eq_powerOn_iff {w : Byte} {i : Instr} (h : eventOf w = some i) : i = .powerOn ↔ w = 0x00 := by
  obtain ⟨rfl, rfl⟩ | ⟨rfl, rfl⟩ | ⟨rfl, rfl⟩ | ⟨rfl, rfl⟩ | ⟨rfl, rfl⟩ | ⟨rfl, rfl⟩ := eventOf_eq_some_cases h <;>
    decide

theorem placeInstruction_powerOn {s : State} {nbits w : Nat} (h : tableBytes nbits w = [0x00]) :
    placeInstruction s nbits w = { s with attached := false } := by
  simp only [placeInstruction, h, if_true]

theorem placeInstruction_event {s : State} {nbits w : Nat} {e : Byte} (h : tableBytes nbits w = [e])
    (he : e ≠ 0x00) : placeInstruction s nbits w = placeEvent e s := by
  simp only [placeInstruction, h, if_neg he]

theorem placeInstruction_packet {s : State} {nbits w : Nat} {t r : Byte} {a : SetupArgs}
    (h : tableBytes nbits w = encodeRequest t r a) :
    placeInstruction s nbits w = placeEvent 0x20 (latchSetup (encodeRequest t r a) s) := by
  simp only [placeInstruction, h, encodeRequest]

/-- A placed event word runs on the powered-up state. -/
theorem step_placeEvent {e : Byte} {i : Instr} (h : eventOf e = some i) (s : State) :
    step (placeEvent e s) = exec i (poweredUp s) :=
  step_run ((nextTurn_event rfl rfl).trans (injectedTurn_of_running h rfl))

/-- The eight bytes of a request as the SETUP latch holds them. -/
def packetLatch (t r : Byte) (a : SetupArgs) : Vector Byte 8 := ⟨(encodeRequest t r a).toArray, rfl⟩

theorem decode_packetLatch (t r : Byte) (a : SetupArgs) :
    decode (packetLatch t r a).toList = .instr (requestOf ⟨t, r, a⟩) := decode_encodeRequest t r a

theorem latchSetup_encodeRequest (t r : Byte) (a : SetupArgs) (s : State) :
    latchSetup (encodeRequest t r a) s = { s with setupLatch := packetLatch t r a, setupRd := 0, flagSetup := true } :=
  rfl

/-- A placed packet runs the request it makes, by SETUP_RECEIVED at the powered-up state. -/
theorem step_placePacket (t r : Byte) (a : SetupArgs) (s : State) :
    step (placeEvent 0x20 (latchSetup (encodeRequest t r a) s))
      = exec (requestOf ⟨t, r, a⟩)
          { poweredUp s with setupLatch := packetLatch t r a, setupRd := 8, flagSetup := true } := by
  rw [step_placeEvent (i := .setupReceived) rfl, latchSetup_encodeRequest]
  obtain ⟨i, hdecode, -, hexec⟩ := setupHandlerRunsTheDecodedRequest
    (poweredUp { s with setupLatch := packetLatch t r a, setupRd := 0, flagSetup := true }) rfl
  have hi : i = requestOf ⟨t, r, a⟩ := Decoded.instr.inj (hdecode.symm.trans (decode_packetLatch t r a))
  rw [hexec, hi]
  rfl

/-- Settles O11: the word's bytes are an event's word or a packet; POWER_ON is placed by detaching the line, another
event by injecting its word, a packet by latching it and injecting SETUP_RECEIVED. -/
theorem placedWordRunsNext : Obligations.PlacedWordRunsNext := by
  intro s nbits w i hword
  rw [State.withFetchWord]
  obtain ⟨e, hbytes, he⟩ | ⟨⟨t, r, a⟩, hbytes, rfl⟩ := decode_eq_instr_cases (decode_of_decodeTableWord hword)
  case inl =>
    have hrequest : i.isEvent ≠ false := by rw [eventOf_isEvent he]; decide
    by_cases hzero : e = 0x00
    case pos =>
      have hi : i = .powerOn := (eventOf_eq_powerOn_iff he).2 hzero
      rw [hzero] at hbytes
      rw [placeInstruction_powerOn hbytes, hi]
      exact ⟨_, step_of_unattached rfl, fun _ => rfl, fun _ hne => absurd rfl hne, fun h => absurd (hi ▸ h) hrequest⟩
    case neg =>
      rw [placeInstruction_event hbytes hzero]
      exact ⟨_, step_placeEvent he s, fun hi => absurd ((eventOf_eq_powerOn_iff he).1 hi) hzero, fun _ _ => rfl,
        fun h => absurd h hrequest⟩
  case inr =>
    have hevent := requestOf_isEvent ⟨t, r, a⟩
    rw [placeInstruction_packet hbytes]
    refine ⟨_, step_placePacket t r a s, fun hi => ?_, fun h _ => ?_, fun _ => ⟨_, decode_packetLatch t r a, rfl⟩⟩
    · rw [hi] at hevent; cases hevent
    · rw [hevent] at h; cases h

end Sys2Proof.Machine

/-! Tokens to another address, and what endpoint 1 answers (60_exceptions.md R136, R122). -/

namespace Sys2Proof.Machine
open Sys2Proof.Expect

theorem answersTo_of_ne {a : UsbAddr} {s : State} (h : a ≠ s.address) : answersTo a s = false := by
  rw [answersTo, beq_eq_false_iff_ne.2 h, Bool.and_false]

/-- What an IN to endpoint 1 gets is by the endpoint and its banks. -/
theorem hostStep_inToken_one_cases (a : UsbAddr) (s : State) :
    ((¬ Ok a s ∨ s.ep1Active = false) ∧ (hostStep (.inToken a 1) s).answers = s.answers ++ [.noHandshake]) ∨
    (∃ r : Report, (hostStep (.inToken a 1) s).answers = s.answers ++ [.data r.bytes]) ∨
    (hostStep (.inToken a 1) s).answers = s.answers ++ [.nak] := by
  cases hanswered : answersTo a s && s.ep1Active with
  | false =>
    rw [hostStep_inToken_one (hostIn1_of_unanswered hanswered)]
    exact .inl ⟨(answersTo_and_eq_false_iff a s _).1 hanswered, rfl⟩
  | true =>
    cases hbanks : s.ep1Banks with
    | nil => exact .inr (.inr (by rw [hostStep_inToken_one (hostIn1_of_no_report hanswered hbanks), heard]))
    | cons r rest =>
      exact .inr (.inl ⟨r, by rw [hostStep_inToken_one (hostIn1_of_report hanswered hbanks), heard]⟩)

/-- Settles O37: no token to another address is answered, and of the three answers of endpoint 1 none is STALL. -/
theorem tokensAreAnsweredOnlyAtTheAddress : Obligations.TokensAreAnsweredOnlyAtTheAddress := by
  refine fun s a => ⟨fun hne b e d => ?elsewhere, fun r hr => ?report⟩
  case elsewhere =>
    have hep0 : (answersTo a s && s.ep0Enabled) = false := by rw [answersTo_of_ne hne, Bool.false_and]
    have hep1 : (answersTo a s && s.ep1Active) = false := by rw [answersTo_of_ne hne, Bool.false_and]
    exact ⟨hostStep_setup_of_unanswered b hep0, hostStep_inToken_of_unanswered e hep0 hep1,
      hostStep_outPacket_of_unanswered e d hep0⟩
  case report =>
    have hsame : ∀ got, (hostStep (.inToken a 1) s).answers = s.answers ++ [got] → r = got := fun got hgot =>
      List.singleton_inj.1 (List.append_cancel_left (hr.symm.trans hgot))
    obtain ⟨hoff, hgot⟩ | ⟨b, hgot⟩ | hgot := hostStep_inToken_one_cases a s
    case inl =>
      rw [hsame _ hgot]
      refine ⟨Answer.noConfusion, fun hok hactive => ?_⟩
      obtain hnot | hinactive := hoff
      · exact absurd hok hnot
      · rw [hactive] at hinactive; cases hinactive
    case inr.inl =>
      rw [hsame _ hgot]
      exact ⟨Answer.noConfusion, fun _ _ => .inr ⟨_, rfl, rfl⟩⟩
    case inr.inr =>
      rw [hsame _ hgot]
      exact ⟨Answer.noConfusion, fun _ _ => .inl rfl⟩

end Sys2Proof.Machine

/-! What a handler can do (10_state.md R19): the state each instruction answers, one constructor for each way it can
end. -/

namespace Sys2Proof.Machine
open Sys2Proof.Expect

/-- The ways a request ends: a stall, the status packet armed or a data stage begun, with the registers its rule
writes; or the halt of a rejected configuration. -/
inductive RequestEffect (s : State) : Instr → State → Prop
  | stalled {i : Instr} : RequestEffect s i (stalled s)
  | status {i : Instr} : RequestEffect s i (statusArmed s)
  | data {i : Instr} (resp : List Byte) (w : Word) : RequestEffect s i (dataArmed resp w s)
  | reportStatus (a : SetupArgs) (r : Report) : RequestEffect s (.getReport a) { statusArmed s with lastReport := r }
  | reportData (a : SetupArgs) (r : Report) (resp : List Byte) (w : Word) :
      RequestEffect s (.getReport a) { dataArmed resp w s with lastReport := r }
  | address (a : SetupArgs) (n : UsbAddr) :
      RequestEffect s (.setAddress a) { statusArmed s with ctlPaddr := n, paddrValid := true }
  | idleRate (a : SetupArgs) (r : Byte) : RequestEffect s (.setIdle a) { statusArmed s with idleRate := r }
  | interface (a : SetupArgs) : RequestEffect s (.setInterface a) { statusArmed s with interfaceAlt := 0 }
  | unconfigured (a : SetupArgs) (hstate : s.devState ≠ .default) :
      RequestEffect s (.setConfigurationDevice a) { statusArmed s with
        ep1Active := false, ep1Banks := [], configuration := 0, devState := .addressed }
  | configured (a : SetupArgs) (hstate : s.devState ≠ .default) (n : Byte) (hn : n ≠ 0) :
      RequestEffect s (.setConfigurationDevice a) { statusArmed s with
        ep1Active := true, ep1Banks := [], configuration := n, interfaceAlt := 0, devState := .configured }
  | rejected (a : SetupArgs) :
      RequestEffect s (.setConfigurationDevice a) { setupTaken s with
        ep1Active := false, ep1Banks := [], halted := true, faultCause := .ep1Rejected }

/-- The ways an instruction ends; SETUP_RECEIVED ends as the request it runs. -/
inductive HandlerEffect (s : State) : Instr → State → Prop
  | powerOn : HandlerEffect s .powerOn { resetItems s with
      padEnabled := true, usbEnabled := true, busIntEnabled := true, comIntEnabled := true, attached := true }
  | busReset : HandlerEffect s .busReset { afterBusReset s with ep0Enabled := true }
  | busResetHalt : HandlerEffect s .busReset
      { afterBusReset s with ep0Enabled := false, halted := true, faultCause := .ep0Rejected }
  | nextChunk (hstage : s.ctlStage = .dataIn) (packet : List Byte) (off : Word) :
      HandlerEffect s .inReady0 { s with flagIn0 := false, ep0In := some packet, ctlOff := off }
  | owedPacket (hstage : s.ctlStage = .dataIn) :
      HandlerEffect s .inReady0 { s with flagIn0 := false, ep0In := some [], zlpOwed := false }
  | responseDone : HandlerEffect s .inReady0 { s with flagIn0 := false, ctlStage := .statusOut }
  | addressApplied (hstage : s.ctlStage = .statusIn) (hpending : s.paddrValid = true) :
      HandlerEffect s .inReady0 { s with
        flagIn0 := false, address := s.ctlPaddr,
        devState := if s.devState = .default then .addressed else s.devState,
        paddrValid := false, ctlStage := .idle }
  | statusDone : HandlerEffect s .inReady0 { s with flagIn0 := false, ctlStage := .idle }
  | inIgnored : HandlerEffect s .inReady0 { s with flagIn0 := false }
  | readEnded : HandlerEffect s .outReceived0 { s with
      flagOut0 := false, out0Latch := [], ep0In := none, zlpOwed := false, ctlStage := .idle }
  | outIgnored : HandlerEffect s .outReceived0 { s with flagOut0 := false, out0Latch := [] }
  | reportArmed (hfree : ep1BankFree s = true) : HandlerEffect s .inReady1 { s with
      lastReport := currentReport s, ep1Banks := s.ep1Banks ++ [currentReport s] }
  | reportIgnored (hfull : ep1BankFree s = false) : HandlerEffect s .inReady1 s
  | request {i : Instr} {t : State} (hi : i.isEvent = false) (h : RequestEffect s i t) : HandlerEffect s i t
  | setup {t : State} (j : Instr) (h : RequestEffect { s with setupRd := 8 } j t) : HandlerEffect s .setupReceived t

/-! ### The requests -/

/-- What a request answers: a next state, or the fault of a table shorter than its own length. -/
inductive RequestOutcome (s : State) (i : Instr) : Out → Prop
  | next {t : State} (h : RequestEffect s i t) : RequestOutcome s i (.next t)
  | overrun {ty : Byte} (h : describe s.params.desc ty = .overrun) :
      RequestOutcome s i (.fault (.descriptorOverrun ty))

section
variable {i : Instr} {s : State}

theorem requestOutcome_stalled : RequestOutcome s i (.next (stalled s)) := .next .stalled

theorem requestOutcome_replied (resp : List Byte) (w : Word) : RequestOutcome s i (.next (replied resp w s)) := by
  rw [replied]
  split
  case isTrue => exact .next .status
  case isFalse => exact .next (.data resp w)

theorem requestOutcome_ite {P : Prop} [Decidable P] {t u : State} (ht : P → RequestOutcome s i (.next t))
    (hu : ¬ P → RequestOutcome s i (.next u)) : RequestOutcome s i (.next (if P then t else u)) := by
  split
  case isTrue h => exact ht h
  case isFalse h => exact hu h

theorem requestOutcome_checked {P : Prop} [Decidable P] (resp : List Byte) (w : Word) :
    RequestOutcome s i (.next (if P then replied resp w s else stalled s)) :=
  requestOutcome_ite (fun _ => requestOutcome_replied resp w) fun _ => requestOutcome_stalled

/-- GET_REPORT's draw is made whether or not bytes are asked for. -/
theorem requestOutcome_reported (a : SetupArgs) (r : Report) (resp : List Byte) (w : Word) :
    RequestOutcome s (.getReport a) (.next (replied resp w { s with lastReport := r })) := by
  rw [replied]
  split
  case isTrue => exact .next (.reportStatus a r)
  case isFalse => exact .next (.reportData a r resp w)

theorem serve_descriptorReply_of_overrun {a : SetupArgs}
    (h : describe s.params.desc (BitVec.ofNat 8 (a.value.toNat / 256)) = .overrun) :
    serve descriptorReply a s = .fault (.descriptorOverrun (BitVec.ofNat 8 (a.value.toNat / 256))) := by
  simp only [serve, descriptorReply, descriptorType_eq_ofNat, abortTransfer_params, h]

/-- The descriptor lookup has three answers. -/
theorem requestOutcome_descriptor (a : SetupArgs) : RequestOutcome s i (serve descriptorReply a s) := by
  cases hlookup : describe s.params.desc (BitVec.ofNat 8 (a.value.toNat / 256)) with
  | found bytes =>
    rw [serve_eq_replied (descriptorReply_of_found hlookup)]
    exact requestOutcome_replied bytes a.length
  | unsupported =>
    rw [serve_eq_stalled (descriptorReply_of_unsupported hlookup)]
    exact requestOutcome_stalled
  | overrun =>
    rw [serve_descriptorReply_of_overrun hlookup]
    exact .overrun hlookup

theorem serve_ruleGetDescriptorInterface_of_serve {a : SetupArgs} (hparam : s.params.ifaceGetDescriptor = .serve)
    (hindex : a.index = 0x0000) : exec (.getDescriptorInterface a) s = serve descriptorReply a s := by
  rw [exec_getDescriptorInterface, serve, serve,
    ruleGetDescriptorInterface_of_serve (s := abortTransfer s) hparam hindex]

theorem requestOutcome_getDescriptorInterface (a : SetupArgs) :
    RequestOutcome s i (exec (.getDescriptorInterface a) s) := by
  obtain ⟨hstall, hother, -, -⟩ := interfaceDescriptorFollowsTheParameter.2 s a
  cases hparam : s.params.ifaceGetDescriptor with
  | stall => rw [hstall hparam]; exact requestOutcome_stalled
  | serve =>
    by_cases hindex : a.index = 0x0000
    case pos =>
      rw [serve_ruleGetDescriptorInterface_of_serve hparam hindex]
      exact requestOutcome_descriptor a
    case neg => rw [hother hparam hindex]; exact requestOutcome_stalled

theorem requestOutcome_setConfigurationDevice (a : SetupArgs) :
    RequestOutcome s (.setConfigurationDevice a) (exec (.setConfigurationDevice a) s) := by
  obtain ⟨hdefault, hzero, haccepted, hrejected⟩ := setConfigurationConfiguresTheReportEndpoint.2 s a
  by_cases hstate : s.devState = .default
  case pos => rw [hdefault hstate]; exact requestOutcome_stalled
  case neg =>
    by_cases hvalue : a.value.toNat % 256 = 0
    case pos => rw [hzero hstate hvalue]; exact .next (.unconfigured a hstate)
    case neg =>
      by_cases hanswer : ep1Accepted s.params
      case pos =>
        have hne : BitVec.ofNat 8 a.value.toNat ≠ 0 := by
          rw [← configValue_eq_ofNat]
          exact mt (configValue_eq_zero_iff a).1 hvalue
        rw [haccepted hstate hvalue hanswer]
        exact .next (.configured a hstate _ hne)
      case neg => rw [hrejected hstate hvalue hanswer]; exact .next (.rejected a)

end

/-- Every request's outcome, read off the statement that settles it. -/
theorem requestOutcome_exec {i : Instr} (hi : i.isEvent = false) (s : State) : RequestOutcome s i (exec i s) := by
  cases i
  case powerOn | busReset | setupReceived | inReady0 | inReady1 | outReceived0 => cases hi
  case getStatusDevice a => rw [(getStatusAnswersTwoZeroBytes.2 s a).1]; exact requestOutcome_replied _ _
  case getStatusInterface a => rw [(getStatusAnswersTwoZeroBytes.2 s a).2.1]; exact requestOutcome_checked _ _
  case getStatusEndpoint a => rw [(getStatusAnswersTwoZeroBytes.2 s a).2.2]; exact requestOutcome_checked _ _
  case getConfiguration a => rw [(storedBytesAreAnswered.2 s a).1]; exact requestOutcome_replied _ _
  case getInterface a => rw [(storedBytesAreAnswered.2 s a).2.1]; exact requestOutcome_checked _ _
  case getIdle a => rw [(storedBytesAreAnswered.2 s a).2.2]; exact requestOutcome_checked _ _
  case getDescriptorDevice a => exact requestOutcome_descriptor a
  case getDescriptorInterface a => exact requestOutcome_getDescriptorInterface a
  case setConfigurationDevice a => exact requestOutcome_setConfigurationDevice a
  case setAddress a =>
    rw [setAddressOnlyPendsTheAddress.2]
    exact requestOutcome_ite (fun _ => .next .status) fun _ => .next (.address a _)
  case setConfigurationInterface a =>
    rw [(interfaceSettingsAcceptOnlyZero.2 s a).1]
    exact requestOutcome_ite (fun _ => .next .status) fun _ => requestOutcome_stalled
  case setInterface a =>
    rw [(interfaceSettingsAcceptOnlyZero.2 s a).2]
    exact requestOutcome_ite (fun _ => .next (.interface a)) fun _ => requestOutcome_stalled
  case setIdle a =>
    rw [setIdleStoresTheHighByte.2]
    exact requestOutcome_ite (fun _ => .next (.idleRate a _)) fun _ => requestOutcome_stalled
  case getReport a =>
    rw [getReportAnswersTheCurrentReport.2]
    exact requestOutcome_ite (fun _ => requestOutcome_reported a _ _ _) fun _ => requestOutcome_stalled
  all_goals exact requestOutcome_stalled

theorem requestEffect_of_exec {i : Instr} {s t : State} (hi : i.isEvent = false) (h : exec i s = .next t) :
    RequestEffect s i t := by
  have hout := requestOutcome_exec hi s
  rw [h] at hout
  cases hout
  assumption

/-- With admitted parameters no lookup overruns, so a request answers a next state. -/
theorem exec_request_of_admitted {i : Instr} {s : State} (hi : i.isEvent = false) (hadmitted : Admitted s.params) :
    ∃ t, exec i s = .next t ∧ RequestEffect s i t := by
  have hout := requestOutcome_exec hi s
  generalize exec i s = out at hout
  cases hout
  case next t h => exact ⟨t, rfl, h⟩
  case overrun ty h => exact absurd h (describe_ne_overrun hadmitted ty)

/-! ### Every instruction -/

theorem handlerEffect_of_inReady0 {s t : State} (h : execInReady0 s = .next t) : HandlerEffect s .inReady0 t := by
  obtain ⟨hstage, -, -, rfl⟩ | ⟨hstage, -, -, rfl⟩ | ⟨-, -, rfl⟩ | ⟨hstage, rfl⟩ | ⟨-, rfl⟩ := execInReady0_cases h
  case inl => exact .nextChunk hstage _ _
  case inr.inl => exact .owedPacket hstage
  case inr.inr.inl => exact .responseDone
  case inr.inr.inr.inl =>
    by_cases hpending : s.paddrValid = true
    case pos =>
      rw [completeStatus_of_pending (s := { s with flagIn0 := false }) hpending]
      exact .addressApplied hstage hpending
    case neg =>
      rw [completeStatus_of_no_address (s := { s with flagIn0 := false }) (Bool.eq_false_iff.2 hpending)]
      exact .statusDone
  case inr.inr.inr.inr => exact .inIgnored

theorem handlerEffect_of_exec {i : Instr} {s t : State} (h : exec i s = .next t) : HandlerEffect s i t := by
  cases hi : i.isEvent with
  | false => exact .request hi (requestEffect_of_exec hi h)
  | true =>
    cases i
    case powerOn =>
      obtain ⟨-, rfl⟩ := execPowerOn_next h
      exact .powerOn
    case busReset =>
      obtain ⟨-, rfl⟩ | ⟨-, rfl⟩ := exec_busReset_cases h
      · exact .busReset
      · exact .busResetHalt
    case setupReceived =>
      obtain ⟨-, j, hj, hexec⟩ := exec_setupReceived_cases h
      exact .setup j (requestEffect_of_exec hj hexec)
    case inReady0 => exact handlerEffect_of_inReady0 h
    case inReady1 =>
      obtain ⟨hfree, hnext⟩ | ⟨hfull, hnext⟩ := execInReady1_cases s
      · rw [drawReport_eq_currentReport] at hnext
        rw [exec_inReady1, hnext] at h
        exact Host.Outcome.next.inj h ▸ .reportArmed hfree
      · rw [exec_inReady1, hnext] at h
        exact Host.Outcome.next.inj h ▸ .reportIgnored hfull
    case outReceived0 =>
      obtain ⟨-, hnext⟩ | ⟨-, hnext⟩ := execOutReceived0_cases s
      · rw [exec_outReceived0, hnext] at h
        exact Host.Outcome.next.inj h ▸ .readEnded
      · rw [exec_outReceived0, hnext] at h
        exact Host.Outcome.next.inj h ▸ .outIgnored
    all_goals cases hi

end Sys2Proof.Machine

/-! What each instruction leaves unchanged, read off the ways it can end (10_state.md R19). -/

namespace Sys2Proof.Machine
open Sys2Proof.Expect

/-- The parameters and the outside world agree. -/
structure SameWorld (s t : State) : Prop where
  params : t.params = s.params
  sampler : t.sampler = s.sampler
  inputs : t.inputs = s.inputs
  answers : t.answers = s.answers

/-- What POWER_ON alone writes agrees: the SETUP latch, the bus line and the enables. -/
structure SameEnables (s t : State) : Prop where
  setupLatch : t.setupLatch = s.setupLatch
  padEnabled : t.padEnabled = s.padEnabled
  usbEnabled : t.usbEnabled = s.usbEnabled
  attached : t.attached = s.attached
  busIntEnabled : t.busIntEnabled = s.busIntEnabled
  comIntEnabled : t.comIntEnabled = s.comIntEnabled

/-- What SET_CONFIGURATION(device) alone of all requests writes agrees, INTERFACE_ALT apart. -/
structure SameConfiguration (s t : State) : Prop where
  devState : t.devState = s.devState
  configuration : t.configuration = s.configuration
  ep1Active : t.ep1Active = s.ep1Active
  ep1Banks : t.ep1Banks = s.ep1Banks
  halted : t.halted = s.halted
  faultCause : t.faultCause = s.faultCause

/-! ### Requests -/

section
variable {s t : State} {i : Instr}

theorem RequestEffect.world (h : RequestEffect s i t) : SameWorld s t := by
  cases h <;> exact ⟨rfl, rfl, rfl, rfl⟩

theorem RequestEffect.enables (h : RequestEffect s i t) : SameEnables s t := by
  cases h <;> exact ⟨rfl, rfl, rfl, rfl, rfl, rfl⟩

theorem RequestEffect.flags_clear (h : RequestEffect s i t) :
    t.flagSetup = false ∧ t.flagIn0 = false ∧ t.flagOut0 = false := by
  cases h <;> exact ⟨rfl, rfl, rfl⟩

theorem RequestEffect.flagBusReset_eq (h : RequestEffect s i t) : t.flagBusReset = s.flagBusReset := by
  cases h <;> rfl

theorem RequestEffect.setupRd_eq (h : RequestEffect s i t) : t.setupRd = s.setupRd := by
  cases h <;> rfl

theorem RequestEffect.address_eq (h : RequestEffect s i t) : t.address = s.address := by
  cases h <;> rfl

theorem RequestEffect.ep0Enabled_eq (h : RequestEffect s i t) : t.ep0Enabled = s.ep0Enabled := by
  cases h <;> rfl

theorem RequestEffect.sameConfiguration (h : RequestEffect s i t) (hi : ∀ a, i ≠ .setConfigurationDevice a) :
    SameConfiguration s t := by
  cases h
  case unconfigured a _ | configured a _ _ _ | rejected a => exact absurd rfl (hi a)
  all_goals exact ⟨rfl, rfl, rfl, rfl, rfl, rfl⟩

theorem RequestEffect.interfaceAlt_eq (h : RequestEffect s i t) (hi : ∀ a, i ≠ .setConfigurationDevice a)
    (hset : ∀ a, i ≠ .setInterface a) : t.interfaceAlt = s.interfaceAlt := by
  cases h
  case configured a _ _ _ => exact absurd rfl (hi a)
  case interface a => exact absurd rfl (hset a)
  all_goals rfl

theorem RequestEffect.idleRate_eq (h : RequestEffect s i t) (hi : ∀ a, i ≠ .setIdle a) :
    t.idleRate = s.idleRate := by
  cases h
  case idleRate a _ => exact absurd rfl (hi a)
  all_goals rfl

theorem RequestEffect.ctlPaddr_eq (h : RequestEffect s i t) (hi : ∀ a, i ≠ .setAddress a) :
    t.ctlPaddr = s.ctlPaddr := by
  cases h
  case address a _ => exact absurd rfl (hi a)
  all_goals rfl

theorem RequestEffect.lastReport_eq (h : RequestEffect s i t) (hi : ∀ a, i ≠ .getReport a) :
    t.lastReport = s.lastReport := by
  cases h
  case reportStatus a _ | reportData a _ _ _ => exact absurd rfl (hi a)
  all_goals rfl

/-! ### Every instruction -/

theorem HandlerEffect.world (h : HandlerEffect s i t) : SameWorld s t := by
  cases h
  case request _ h => exact h.world
  case setup _ h => exact ⟨h.world.params, h.world.sampler, h.world.inputs, h.world.answers⟩
  all_goals exact ⟨rfl, rfl, rfl, rfl⟩

theorem HandlerEffect.enables (h : HandlerEffect s i t) (hi : i ≠ .powerOn) : SameEnables s t := by
  cases h
  case powerOn => exact absurd rfl hi
  case request _ h => exact h.enables
  case setup _ h =>
    exact ⟨h.enables.setupLatch, h.enables.padEnabled, h.enables.usbEnabled, h.enables.attached,
      h.enables.busIntEnabled, h.enables.comIntEnabled⟩
  all_goals exact ⟨rfl, rfl, rfl, rfl, rfl, rfl⟩

theorem HandlerEffect.attached (h : HandlerEffect s i t) (hs : s.attached = true) : t.attached = true := by
  by_cases hi : i = .powerOn
  case pos => subst hi; cases h with
    | powerOn => rfl
    | request hevent _ => cases hevent
  case neg => rw [(h.enables hi).attached, hs]

theorem HandlerEffect.flagBusReset_eq (h : HandlerEffect s i t) (hpower : i ≠ .powerOn) (hreset : i ≠ .busReset) :
    t.flagBusReset = s.flagBusReset := by
  cases h
  case powerOn => exact absurd rfl hpower
  case busReset | busResetHalt => exact absurd rfl hreset
  case request _ h => exact h.flagBusReset_eq
  case setup _ h => exact h.flagBusReset_eq
  all_goals rfl

/-- ADDRESS is written by POWER_ON, BUS_RESET and the completion of a SET_ADDRESS. -/
theorem HandlerEffect.address_cases (h : HandlerEffect s i t) (hpower : i ≠ .powerOn) (hreset : i ≠ .busReset) :
    t.address = s.address ∨
    (i = .inReady0 ∧ s.ctlStage = .statusIn ∧ s.paddrValid = true ∧ t.address = s.ctlPaddr) := by
  cases h
  case powerOn => exact absurd rfl hpower
  case busReset | busResetHalt => exact absurd rfl hreset
  case addressApplied hstage hpending => exact .inr ⟨rfl, hstage, hpending, rfl⟩
  case request _ h => exact .inl h.address_eq
  case setup _ h => exact .inl h.address_eq
  all_goals exact .inl rfl

section
variable (h : HandlerEffect s i t) (hpower : i ≠ .powerOn) (hsetup : i ≠ .setupReceived)
include h hpower hsetup

theorem HandlerEffect.devState_eq (hreset : i ≠ .busReset) (hin : i ≠ .inReady0)
    (hi : ∀ a, i ≠ .setConfigurationDevice a) : t.devState = s.devState := by
  cases h
  case powerOn => exact absurd rfl hpower
  case busReset | busResetHalt => exact absurd rfl hreset
  case addressApplied => exact absurd rfl hin
  case setup => exact absurd rfl hsetup
  case request _ h => exact (h.sameConfiguration hi).devState
  all_goals rfl

/-- Endpoint 1's activation, the halt and the configuration's value. -/
theorem HandlerEffect.endpoint_frame (hreset : i ≠ .busReset) (hi : ∀ a, i ≠ .setConfigurationDevice a) :
    t.configuration = s.configuration ∧ t.ep1Active = s.ep1Active ∧ t.halted = s.halted ∧
      t.faultCause = s.faultCause := by
  cases h
  case powerOn => exact absurd rfl hpower
  case busReset | busResetHalt => exact absurd rfl hreset
  case setup => exact absurd rfl hsetup
  case request _ h =>
    have hsame := h.sameConfiguration hi
    exact ⟨hsame.configuration, hsame.ep1Active, hsame.halted, hsame.faultCause⟩
  all_goals exact ⟨rfl, rfl, rfl, rfl⟩

theorem HandlerEffect.ep0Enabled_eq (hreset : i ≠ .busReset) : t.ep0Enabled = s.ep0Enabled := by
  cases h
  case powerOn => exact absurd rfl hpower
  case busReset | busResetHalt => exact absurd rfl hreset
  case setup => exact absurd rfl hsetup
  case request _ h => exact h.ep0Enabled_eq
  all_goals rfl

theorem HandlerEffect.interfaceAlt_eq (hreset : i ≠ .busReset) (hi : ∀ a, i ≠ .setConfigurationDevice a)
    (hset : ∀ a, i ≠ .setInterface a) : t.interfaceAlt = s.interfaceAlt := by
  cases h
  case powerOn => exact absurd rfl hpower
  case busReset | busResetHalt => exact absurd rfl hreset
  case setup => exact absurd rfl hsetup
  case request _ h => exact h.interfaceAlt_eq hi hset
  all_goals rfl

theorem HandlerEffect.idleRate_eq (hi : ∀ a, i ≠ .setIdle a) : t.idleRate = s.idleRate := by
  cases h
  case powerOn => exact absurd rfl hpower
  case setup => exact absurd rfl hsetup
  case request _ h => exact h.idleRate_eq hi
  all_goals rfl

theorem HandlerEffect.ctlPaddr_eq (hi : ∀ a, i ≠ .setAddress a) : t.ctlPaddr = s.ctlPaddr := by
  cases h
  case powerOn => exact absurd rfl hpower
  case setup => exact absurd rfl hsetup
  case request _ h => exact h.ctlPaddr_eq hi
  all_goals rfl

theorem HandlerEffect.lastReport_eq (hin : i ≠ .inReady1) (hi : ∀ a, i ≠ .getReport a) :
    t.lastReport = s.lastReport := by
  cases h
  case powerOn => exact absurd rfl hpower
  case setup => exact absurd rfl hsetup
  case reportArmed => exact absurd rfl hin
  case request _ h => exact h.lastReport_eq hi
  all_goals rfl

end

theorem HandlerEffect.ep0Stall_eq (h : HandlerEffect s i t) (hpower : i ≠ .powerOn) (hsetup : i ≠ .setupReceived)
    (hreset : i ≠ .busReset) (hevent : i.isEvent = true) : t.ep0Stall = s.ep0Stall := by
  cases h
  case powerOn => exact absurd rfl hpower
  case setup => exact absurd rfl hsetup
  case busReset | busResetHalt => exact absurd rfl hreset
  case request hrequest _ => rw [hrequest] at hevent; cases hevent
  all_goals rfl

end

/-! ### The obligations about every instruction -/

/-- Settles O10: the request the latch decodes to meets no overrun, and keeps what it does not clear. -/
theorem everySetupPacketIsServed : Obligations.EverySetupPacketIsServed := by
  intro s hstart hadmitted
  obtain ⟨i, -, hi, hexec⟩ := setupHandlerRunsTheDecodedRequest s hstart
  obtain ⟨t, ht, heffect⟩ := exec_request_of_admitted (s := { s with setupRd := 8 }) hi hadmitted
  obtain ⟨hsetup, hin, hout⟩ := heffect.flags_clear
  exact ⟨t, hexec.trans ht, heffect.setupRd_eq, heffect.enables.setupLatch, hsetup, hin, hout,
    heffect.flagBusReset_eq, heffect.ep0Enabled_eq, heffect.address_eq⟩

/-- Settles O39: each register's frame lemma, read as "changed, so one of its writers ran". -/
theorem onlyNamedHandlersWriteARegister : Obligations.OnlyNamedHandlersWriteARegister := by
  intro i s t hexec hpower hsetup
  have h := handlerEffect_of_exec hexec
  have hendpoint : ¬ (i = .busReset ∨ ∃ a, i = .setConfigurationDevice a) →
      t.configuration = s.configuration ∧ t.ep1Active = s.ep1Active ∧ t.halted = s.halted ∧
        t.faultCause = s.faultCause := fun hnot =>
    h.endpoint_frame hpower hsetup (fun hi => hnot (.inl hi)) fun a hi => hnot (.inr ⟨a, hi⟩)
  refine ⟨not_imp_comm.1 fun hnot => ?devState, not_imp_comm.1 fun hnot => ?address,
    not_imp_comm.1 fun hnot => (hendpoint hnot).1, not_imp_comm.1 fun hnot => ?interfaceAlt,
    not_imp_comm.1 fun hnot => ?idleRate, not_imp_comm.1 fun hnot => ?ctlPaddr,
    not_imp_comm.1 fun hnot => h.ep0Enabled_eq hpower hsetup hnot,
    not_imp_comm.1 fun hnot => (hendpoint hnot).2.1, ?halt, not_imp_comm.1 fun hnot => ?lastReport⟩
  case devState =>
    exact h.devState_eq hpower hsetup (fun hi => hnot (.inl hi)) (fun hi => hnot (.inr (.inl hi)))
      fun a hi => hnot (.inr (.inr ⟨a, hi⟩))
  case address =>
    obtain hsame | ⟨hi, -⟩ := h.address_cases hpower fun hi => hnot (.inl hi)
    · exact hsame
    · exact absurd (.inr hi) hnot
  case interfaceAlt =>
    exact h.interfaceAlt_eq hpower hsetup (fun hi => hnot (.inl hi)) (fun a hi => hnot (.inr (.inl ⟨a, hi⟩)))
      fun a hi => hnot (.inr (.inr ⟨a, hi⟩))
  case idleRate => exact h.idleRate_eq hpower hsetup fun a hi => hnot ⟨a, hi⟩
  case ctlPaddr => exact h.ctlPaddr_eq hpower hsetup fun a hi => hnot ⟨a, hi⟩
  case halt =>
    intro hchanged
    by_contra hnot
    obtain ⟨-, -, hhalted, hcause⟩ := hendpoint hnot
    exact hchanged.elim (absurd hhalted) (absurd hcause)
  case lastReport => exact h.lastReport_eq hpower hsetup (fun hi => hnot (.inl hi)) fun a hi => hnot (.inr ⟨a, hi⟩)

/-- The two states IN_READY(1) can answer. -/
theorem exec_inReady1_cases {s t : State} (h : exec .inReady1 s = .next t) :
    t = { s with lastReport := currentReport s, ep1Banks := s.ep1Banks ++ [currentReport s] } ∨ t = s := by
  cases handlerEffect_of_exec h
  case reportArmed => exact .inl rfl
  case reportIgnored => exact .inr rfl
  case request hevent _ => cases hevent

/-- The handlers of endpoint 0's packets move through the response they were given. -/
theorem HandlerEffect.response_frame {s t : State} {i : Instr} (h : HandlerEffect s i t)
    (hi : i = .inReady0 ∨ i = .outReceived0) :
    t.ctlBuf = s.ctlBuf ∧ t.ctlLen = s.ctlLen ∧ t.ep0Stall = s.ep0Stall ∧ t.ep1Banks = s.ep1Banks := by
  obtain rfl | rfl := hi <;> cases h
  case inl.request hevent _ | inr.request hevent _ => cases hevent
  all_goals exact ⟨rfl, rfl, rfl, rfl⟩

/-- Settles O40: the answers of IN_READY(1), IN_READY(0) and OUT_RECEIVED(0) are records over the given state; a
request's frame keeps the banks; and every instruction but IN_READY(1) is one of those named last. -/
theorem reportEventLeavesTheControlTransfer : Obligations.ReportEventLeavesTheControlTransfer := by
  intro i s t hexec
  have h := handlerEffect_of_exec hexec
  refine ⟨fun hi => ?inReady1, h.response_frame, fun hrequest hi => ?banks, not_imp_comm.1 fun hnot => ?stage⟩
  case inReady1 =>
    subst hi
    obtain rfl | rfl := exec_inReady1_cases hexec <;> exact ⟨rfl, rfl, rfl, rfl, rfl, rfl, rfl, rfl, rfl⟩
  case banks => exact ((requestEffect_of_exec hrequest hexec).sameConfiguration hi).ep1Banks
  case stage =>
    have hi : i = .inReady1 := by
      cases i <;> simp [Instr.isEvent] at hnot ⊢
    subst hi
    obtain rfl | rfl := exec_inReady1_cases hexec <;> rfl

/-- Settles O41: the frame lemmas of the world, the enables and the bus-reset flag. -/
theorem handlersLeaveTheWorldAlone : Obligations.HandlersLeaveTheWorldAlone := by
  intro i s t hexec
  have h := handlerEffect_of_exec hexec
  refine ⟨h.world.params, h.world.sampler, h.world.inputs, h.world.answers, fun hi => (h.enables hi).setupLatch,
    h.attached, fun hi => ?enables, not_imp_comm.1 fun hnot => ?flag⟩
  case enables =>
    obtain ⟨-, hpad, husb, hattached, hbus, hcom⟩ := h.enables hi
    exact ⟨hpad, husb, hattached, hbus, hcom⟩
  case flag => exact h.flagBusReset_eq (fun hi => hnot (.inl hi)) fun hi => hnot (.inr hi)

/-- Settles O42: outside POWER_ON and BUS_RESET, ADDRESS is written by the status completion only. -/
theorem addressChangesOnlyAtStatusCompletion : Obligations.AddressChangesOnlyAtStatusCompletion := by
  intro i s t hexec hchanged
  by_cases hpower : i = .powerOn
  case pos => exact .inl hpower
  case neg =>
    by_cases hreset : i = .busReset
    case pos => exact .inr (.inl hreset)
    case neg =>
      obtain hsame | hdone := (handlerEffect_of_exec hexec).address_cases hpower hreset
      · exact absurd hsame hchanged
      · exact .inr (.inr hdone)

end Sys2Proof.Machine

/-! A request is its rule between an abort and an outcome (41_control_transfer.md R78). The transfer in flight does not
reach the rule, and IDLE_RATE reaches no rule but GET_IDLE's and SET_IDLE's (10_state.md R24). -/

namespace Sys2Proof.Machine
open Sys2Proof.Expect

/-- The state with another idle rate. -/
def withIdleRate (r : Byte) (s : State) : State := { s with idleRate := r }

/-- What a rule gives, its state changed. -/
def RuleResult.map (f : State → State) : RuleResult → RuleResult
  | .reply r s => .reply r (f s)
  | .halt s => .halt (f s)
  | .fault e => .fault e

/-- The rule gives the same whatever the idle rate, and keeps it. -/
def IgnoresIdleRate (rule : Rule) : Prop :=
  ∀ a s r, rule a (withIdleRate r s) = (rule a s).map (withIdleRate r)

/-! ### The rules -/

theorem ignoresIdleRate_descriptorReply : IgnoresIdleRate descriptorReply := by
  intro a s r
  simp only [descriptorReply, withIdleRate]
  cases describe s.params.desc a.descriptorType <;> rfl

theorem ignoresIdleRate_getDescriptorInterface : IgnoresIdleRate ruleGetDescriptorInterface := by
  intro a s r
  cases hparam : s.params.ifaceGetDescriptor with
  | stall =>
    rw [ruleGetDescriptorInterface_of_stall hparam, ruleGetDescriptorInterface_of_stall (s := withIdleRate r s) hparam]
    rfl
  | serve =>
    by_cases hindex : a.index = 0x0000
    case pos =>
      rw [ruleGetDescriptorInterface_of_serve hparam hindex,
        ruleGetDescriptorInterface_of_serve (s := withIdleRate r s) hparam hindex, ignoresIdleRate_descriptorReply]
    case neg =>
      rw [ruleGetDescriptorInterface_of_index_ne hparam hindex,
        ruleGetDescriptorInterface_of_index_ne (s := withIdleRate r s) hparam hindex]
      rfl

theorem ignoresIdleRate_setAddress : IgnoresIdleRate ruleSetAddress := by
  intro a s r
  simp only [ruleSetAddress]
  split_ifs <;> rfl

theorem ignoresIdleRate_setConfigurationDevice : IgnoresIdleRate ruleSetConfigurationDevice := by
  intro a s r
  by_cases hstate : s.devState = .default
  case pos =>
    rw [ruleSetConfigurationDevice_of_default hstate,
      ruleSetConfigurationDevice_of_default (s := withIdleRate r s) hstate]
    rfl
  case neg =>
    by_cases hvalue : a.value.toNat % 256 = 0
    case pos =>
      rw [ruleSetConfigurationDevice_of_zero hstate hvalue,
        ruleSetConfigurationDevice_of_zero (s := withIdleRate r s) hstate hvalue]
      rfl
    case neg =>
      by_cases hanswer : ep1Accepted s.params
      case pos =>
        rw [ruleSetConfigurationDevice_of_accepted hstate hvalue hanswer,
          ruleSetConfigurationDevice_of_accepted (s := withIdleRate r s) hstate hvalue hanswer]
        rfl
      case neg =>
        rw [ruleSetConfigurationDevice_of_rejected hstate hvalue hanswer,
          ruleSetConfigurationDevice_of_rejected (s := withIdleRate r s) hstate hvalue hanswer]
        rfl

theorem ignoresIdleRate_getStatusInterface : IgnoresIdleRate ruleGetStatusInterface := by
  intro a s r
  simp only [ruleGetStatusInterface]
  split_ifs <;> rfl

theorem ignoresIdleRate_getStatusEndpoint : IgnoresIdleRate ruleGetStatusEndpoint := by
  intro a s r
  simp only [ruleGetStatusEndpoint]
  split_ifs <;> rfl

theorem ignoresIdleRate_getInterface : IgnoresIdleRate ruleGetInterface := by
  intro a s r
  simp only [ruleGetInterface, withIdleRate]
  split_ifs <;> rfl

theorem ignoresIdleRate_setConfigurationInterface : IgnoresIdleRate ruleSetConfigurationInterface := by
  intro a s r
  simp only [ruleSetConfigurationInterface]
  split_ifs <;> rfl

theorem ignoresIdleRate_setInterface : IgnoresIdleRate ruleSetInterface := by
  intro a s r
  simp only [ruleSetInterface]
  split_ifs <;> rfl

theorem ignoresIdleRate_getReport : IgnoresIdleRate ruleGetReport := by
  intro a s r
  simp only [ruleGetReport, drawReport_eq_currentReport]
  split_ifs <;> rfl

/-- Every request serves a rule, and all but GET_IDLE and SET_IDLE one that ignores the rate. -/
theorem exec_request_eq_serve {i : Instr} (hi : i.isEvent = false) :
    ∃ rule a, (∀ s, exec i s = serve rule a s) ∧
      ((∀ a, i ≠ .getIdle a) → (∀ a, i ≠ .setIdle a) → IgnoresIdleRate rule) := by
  cases i
  case powerOn | busReset | setupReceived | inReady0 | inReady1 | outReceived0 => cases hi
  case getStatusDevice a => exact ⟨_, a, exec_getStatusDevice a, fun _ _ _ _ _ => rfl⟩
  case clearFeatureDevice a => exact ⟨_, a, exec_clearFeatureDevice a, fun _ _ _ _ _ => rfl⟩
  case setFeatureDevice a => exact ⟨_, a, exec_setFeatureDevice a, fun _ _ _ _ _ => rfl⟩
  case setAddress a => exact ⟨_, a, exec_setAddress a, fun _ _ => ignoresIdleRate_setAddress⟩
  case getDescriptorDevice a => exact ⟨_, a, exec_getDescriptorDevice a, fun _ _ => ignoresIdleRate_descriptorReply⟩
  case setDescriptor a => exact ⟨_, a, exec_setDescriptor a, fun _ _ _ _ _ => rfl⟩
  case getConfiguration a => exact ⟨_, a, exec_getConfiguration a, fun _ _ _ _ _ => rfl⟩
  case setConfigurationDevice a =>
    exact ⟨_, a, exec_setConfigurationDevice a, fun _ _ => ignoresIdleRate_setConfigurationDevice⟩
  case getStatusInterface a =>
    exact ⟨_, a, exec_getStatusInterface a, fun _ _ => ignoresIdleRate_getStatusInterface⟩
  case clearFeatureInterface a => exact ⟨_, a, exec_clearFeatureInterface a, fun _ _ _ _ _ => rfl⟩
  case setFeatureInterface a => exact ⟨_, a, exec_setFeatureInterface a, fun _ _ _ _ _ => rfl⟩
  case getDescriptorInterface a =>
    exact ⟨_, a, exec_getDescriptorInterface a, fun _ _ => ignoresIdleRate_getDescriptorInterface⟩
  case setConfigurationInterface a =>
    exact ⟨_, a, exec_setConfigurationInterface a, fun _ _ => ignoresIdleRate_setConfigurationInterface⟩
  case getInterface a => exact ⟨_, a, exec_getInterface a, fun _ _ => ignoresIdleRate_getInterface⟩
  case setInterface a => exact ⟨_, a, exec_setInterface a, fun _ _ => ignoresIdleRate_setInterface⟩
  case synchFrameInterface a => exact ⟨_, a, exec_synchFrameInterface a, fun _ _ _ _ _ => rfl⟩
  case getStatusEndpoint a => exact ⟨_, a, exec_getStatusEndpoint a, fun _ _ => ignoresIdleRate_getStatusEndpoint⟩
  case clearFeatureEndpoint a => exact ⟨_, a, exec_clearFeatureEndpoint a, fun _ _ _ _ _ => rfl⟩
  case setFeatureEndpoint a => exact ⟨_, a, exec_setFeatureEndpoint a, fun _ _ _ _ _ => rfl⟩
  case synchFrameEndpoint a => exact ⟨_, a, exec_synchFrameEndpoint a, fun _ _ _ _ _ => rfl⟩
  case getReport a => exact ⟨_, a, exec_getReport a, fun _ _ => ignoresIdleRate_getReport⟩
  case getIdle a => exact ⟨_, a, exec_getIdle a, fun hget _ => absurd rfl (hget a)⟩
  case getProtocol a => exact ⟨_, a, exec_getProtocol a, fun _ _ _ _ _ => rfl⟩
  case setReport a => exact ⟨_, a, exec_setReport a, fun _ _ _ _ _ => rfl⟩
  case setIdle a => exact ⟨_, a, exec_setIdle a, fun _ hset => absurd rfl (hset a)⟩
  case setProtocol a => exact ⟨_, a, exec_setProtocol a, fun _ _ _ _ _ => rfl⟩
  case unrecognized t r a => exact ⟨_, a, exec_unrecognized t r a, fun _ _ _ _ _ => rfl⟩

theorem serve_setupTaken (rule : Rule) (a : SetupArgs) (s : State) : serve rule a (setupTaken s) = serve rule a s :=
  rfl

/-- Settles O45: the handler aborts before it runs the rule, and aborting an aborted transfer changes nothing. -/
theorem setupAbortsTheTransferInFlight : Obligations.SetupAbortsTheTransferInFlight := by
  intro i s hi
  obtain ⟨rule, a, hserve, -⟩ := exec_request_eq_serve hi
  rw [hserve, hserve, serve_setupTaken]

/-! ### The outcomes and the event handlers -/

section
variable (r : Byte) (s : State)

theorem arm0_refused {site : ArmSite} {bytes : List Byte}
    (h : ¬ (s.ep0In = none ∧ bytes.length ≤ s.params.ep0Size)) :
    arm0 site bytes s = .fault (.armPrecondition site) := if_neg h

/-- Arming commutes with the rate's change; the changed state is given by an equation, so that any record that is one
fits. -/
theorem arm0_withIdleRate {t : State} {site : ArmSite} {bytes : List Byte} (ht : t = withIdleRate r s) :
    arm0 site bytes t = mapNext (withIdleRate r) (arm0 site bytes s) := by
  subst ht
  by_cases h : s.ep0In = none ∧ bytes.length ≤ s.params.ep0Size
  case pos => rw [arm0_free site h.1 h.2, arm0_free (s := withIdleRate r s) site h.1 h.2]; rfl
  case neg => rw [arm0_refused s h, arm0_refused (withIdleRate r s) h]; rfl

theorem applyReply_withIdleRate (w : Word) (reply : Reply) :
    applyReply w reply (withIdleRate r s) = mapNext (withIdleRate r) (applyReply w reply s) := by
  cases reply with
  | stall c => rfl
  | data resp =>
    simp only [applyReply, beginResponse]
    split
    case isTrue => exact arm0_withIdleRate r _ rfl
    case isFalse => exact arm0_withIdleRate r _ rfl
  | noData pa => cases pa <;> exact arm0_withIdleRate r _ rfl

theorem serve_withIdleRate {rule : Rule} (h : IgnoresIdleRate rule) (a : SetupArgs) :
    serve rule a (withIdleRate r s) = mapNext (withIdleRate r) (serve rule a s) := by
  have hrule : rule a (abortTransfer (withIdleRate r s)) = (rule a (abortTransfer s)).map (withIdleRate r) :=
    h a (abortTransfer s) r
  rw [serve, hrule, serve]
  cases rule a (abortTransfer s) with
  | reply reply u => exact applyReply_withIdleRate r u a.length reply
  | halt u => rfl
  | fault e => rfl

theorem exec_busReset_withIdleRate :
    exec .busReset (withIdleRate r s) = mapNext (withIdleRate r) (exec .busReset s) := by
  by_cases haccepted : ep0Accepted s.params
  case pos =>
    rw [exec_busReset_of_accepted haccepted, exec_busReset_of_accepted (s := withIdleRate r s) haccepted]
    rfl
  case neg =>
    rw [exec_busReset_of_rejected haccepted, exec_busReset_of_rejected (s := withIdleRate r s) haccepted]
    rfl

theorem continueData_withIdleRate :
    continueData (withIdleRate r s) = mapNext (withIdleRate r) (continueData s) := by
  by_cases hlt : s.ctlOff.toNat < s.ctlLen.toNat
  case pos =>
    rw [continueData, if_pos (show (withIdleRate r s).ctlOff.toNat < (withIdleRate r s).ctlLen.toNat from hlt),
      continueData, if_pos hlt]
    exact arm0_withIdleRate r _ rfl
  case neg =>
    rw [continueData, if_neg (show ¬ (withIdleRate r s).ctlOff.toNat < (withIdleRate r s).ctlLen.toNat from hlt),
      continueData, if_neg hlt]
    by_cases howed : s.zlpOwed = true
    case pos =>
      rw [if_pos (show (withIdleRate r s).zlpOwed = true from howed), if_pos howed]
      exact arm0_withIdleRate r _ rfl
    case neg =>
      rw [if_neg (show ¬ (withIdleRate r s).zlpOwed = true from howed), if_neg howed]
      rfl

theorem completeStatus_withIdleRate : completeStatus (withIdleRate r s) = withIdleRate r (completeStatus s) := by
  by_cases hpending : s.paddrValid = true
  case pos =>
    rw [completeStatus_of_pending hpending, completeStatus_of_pending (s := withIdleRate r s) hpending]
    rfl
  case neg =>
    have hnone : s.paddrValid = false := Bool.eq_false_iff.2 hpending
    rw [completeStatus_of_no_address hnone, completeStatus_of_no_address (s := withIdleRate r s) hnone]
    rfl

theorem exec_inReady0_withIdleRate :
    exec .inReady0 (withIdleRate r s) = mapNext (withIdleRate r) (exec .inReady0 s) := by
  rw [exec_inReady0, exec_inReady0]
  cases hstage : s.ctlStage with
  | dataIn =>
    rw [execInReady0_of_dataIn hstage, execInReady0_of_dataIn (s := withIdleRate r s) hstage]
    exact continueData_withIdleRate r { s with flagIn0 := false }
  | statusIn =>
    rw [execInReady0_of_statusIn hstage, execInReady0_of_statusIn (s := withIdleRate r s) hstage]
    exact congrArg _ (completeStatus_withIdleRate r { s with flagIn0 := false })
  | idle =>
    rw [execInReady0_of_no_transfer (.inl hstage), execInReady0_of_no_transfer (s := withIdleRate r s) (.inl hstage)]
    rfl
  | statusOut =>
    rw [execInReady0_of_no_transfer (.inr hstage), execInReady0_of_no_transfer (s := withIdleRate r s) (.inr hstage)]
    rfl

theorem exec_inReady1_withIdleRate :
    exec .inReady1 (withIdleRate r s) = mapNext (withIdleRate r) (exec .inReady1 s) := by
  by_cases hfree : s.ep1Active = true ∧ s.ep1Banks.length < s.params.ep1Banks
  case pos =>
    rw [(inReadyOneArmsOneReport.2 s).1 hfree, (inReadyOneArmsOneReport.2 (withIdleRate r s)).1 hfree]
    rfl
  case neg =>
    rw [(inReadyOneArmsOneReport.2 s).2 hfree, (inReadyOneArmsOneReport.2 (withIdleRate r s)).2 hfree]
    rfl

theorem exec_outReceived0_withIdleRate :
    exec .outReceived0 (withIdleRate r s) = mapNext (withIdleRate r) (exec .outReceived0 s) := by
  rw [exec_outReceived0, exec_outReceived0]
  obtain ⟨hstage, hnext⟩ | ⟨hstage, hnext⟩ := execOutReceived0_cases s
  case inl => rw [hnext, execOutReceived0_of_read (s := withIdleRate r s) hstage]; rfl
  case inr => rw [hnext, execOutReceived0_of_not_read (s := withIdleRate r s) hstage]; rfl

end

/-- Settles O46: a request's rule and outcome, and the other event handlers, commute with a change of the rate. -/
theorem idleRateHasNoEffect : Obligations.IdleRateHasNoEffect := by
  intro i s r hpower hsetup hget hset
  change exec i (withIdleRate r s) = mapNext (withIdleRate r) (exec i s)
  cases hevent : i.isEvent with
  | false =>
    obtain ⟨rule, a, hserve, hignores⟩ := exec_request_eq_serve hevent
    rw [hserve, hserve, serve_withIdleRate r s (hignores hget hset)]
  | true =>
    cases i
    case powerOn => exact absurd rfl hpower
    case setupReceived => exact absurd rfl hsetup
    case busReset => exact exec_busReset_withIdleRate r s
    case inReady0 => exact exec_inReady0_withIdleRate r s
    case inReady1 => exact exec_inReady1_withIdleRate r s
    case outReceived0 => exact exec_outReceived0_withIdleRate r s
    all_goals cases hevent

end Sys2Proof.Machine

/-! What one turn can be, and what it leaves of the engine (40_enumeration.md R73; 60_exceptions.md R123, R135). -/

namespace Sys2Proof.Machine
open Sys2Proof.Expect

/-- The state with its next input taken, if there is one. -/
def inputTaken (s : State) : State := { s with inputs := s.inputs.tail }

theorem inputTaken_of_cons {s : State} {x : Input} {rest : List Input} (h : s.inputs = x :: rest) :
    { s with inputs := rest } = inputTaken s := by
  rw [inputTaken, h, List.tail_cons]

theorem inputTaken_of_nil {s : State} (h : s.inputs = []) : inputTaken s = s := by
  rw [inputTaken, h, List.tail_nil, ← h]

/-- The next turn, with what selects it. -/
inductive TurnEffect (s : State) : Turn → Prop
  | powerOn (hoff : s.attached = false) : TurnEffect s (.run .powerOn s)
  | host (hon : s.attached = true) (a : HostAction) : TurnEffect s (.pass (hostStep a (inputTaken s)))
  | sample (hon : s.attached = true) (d : Option Snapshot) :
      TurnEffect s (.pass { inputTaken s with sampler := d })
  | service (hon : s.attached = true) {i : Instr} (hpending : pendingEvent s = some i) :
      TurnEffect s (.run i (inputTaken s))
  | rest (hon : s.attached = true) (hnone : pendingEvent s = none) : TurnEffect s (.pass (inputTaken s))
  | stuck (hhalted : s.halted = true) : TurnEffect s (.stuck (.halted s.faultCause))
  | inject (hon : s.attached = true) {w : Byte} {rest : List Input} (hinputs : s.inputs = .event w :: rest)
      {i : Instr} (hw : eventOf w = some i) (hrun : s.halted = true → i = .powerOn) :
      TurnEffect s (.run i (inputTaken s))
  | ignore (hon : s.attached = true) (hhalted : s.halted = true) : TurnEffect s (.pass (inputTaken s))
  | unknown {w : Byte} {rest : List Input} (hinputs : s.inputs = .event w :: rest) :
      TurnEffect s (.refuse (.unknownEvent w))

theorem turnEffect_engineTurn {s : State} (hon : s.attached = true) : TurnEffect s (engineTurn (inputTaken s)) := by
  obtain ⟨i, hpending, hturn⟩ | ⟨hnone, hturn⟩ := engineTurn_cases (inputTaken s)
  case inl => rw [hturn]; exact .service hon hpending
  case inr => rw [hturn]; exact .rest hon hnone

theorem turnEffect_injectedTurn {s : State} (hon : s.attached = true) {w : Byte} {rest : List Input}
    (hinputs : s.inputs = .event w :: rest) : TurnEffect s (injectedTurn w (inputTaken s)) := by
  unfold injectedTurn
  split
  case h_1 => exact .unknown hinputs
  case h_2 i hw =>
    split
    case isTrue hignored => exact .ignore hon (Bool.and_eq_true_iff.1 hignored).1
    case isFalse hrun => exact .inject hon hinputs hw fun hhalted => by simpa [inputTaken, hhalted] using hrun

theorem turnEffect_nextTurn (s : State) : TurnEffect s (nextTurn s) := by
  cases hon : s.attached with
  | false => rw [nextTurn_unattached hon]; exact .powerOn hon
  | true =>
    cases hinputs : s.inputs with
    | nil =>
      rw [nextTurn_alone hon hinputs]
      split
      case isTrue hhalted => exact .stuck hhalted
      case isFalse =>
        have hturn := turnEffect_engineTurn hon
        rwa [inputTaken_of_nil hinputs] at hturn
    | cons x rest =>
      cases x with
      | host a => rw [nextTurn_host hon hinputs, inputTaken_of_cons hinputs]; exact .host hon a
      | engine => rw [nextTurn_engine hon hinputs, inputTaken_of_cons hinputs]; exact turnEffect_engineTurn hon
      | sample d =>
        rw [nextTurn_sample hon hinputs]
        exact (congrArg (fun u => Turn.pass { u with sampler := d }) (inputTaken_of_cons hinputs)) ▸ .sample hon d
      | event w =>
        rw [nextTurn_event hon hinputs, inputTaken_of_cons hinputs]
        exact turnEffect_injectedTurn hon hinputs

theorem pendingEvent_isEvent {s : State} {i : Instr} (h : pendingEvent s = some i) : i.isEvent = true := by
  obtain ⟨-, ⟨rfl, -⟩ | ⟨rfl, -⟩ | ⟨rfl, -⟩ | ⟨rfl, -⟩ | ⟨rfl, -⟩⟩ := pendingEvent_cases h <;> rfl

/-- What a step to a next state is. -/
theorem step_next_cases {s t : State} (h : step s = .next t) :
    TurnEffect s (.pass t) ∨
    ∃ i s', nextTurn s = .run i s' ∧ TurnEffect s (.run i s') ∧ HandlerEffect s' i t := by
  have hturn := turnEffect_nextTurn s
  obtain ⟨i, s', hrun, hexec⟩ | hpass := step_cases h
  case inl => exact .inr ⟨i, s', hrun, hrun ▸ hturn, handlerEffect_of_exec hexec⟩
  case inr => exact .inl (hpass ▸ hturn)

/-- Only events are run by a turn, on the given state but for its inputs. -/
theorem TurnEffect.run_frame {s s' : State} {i : Instr} (h : TurnEffect s (.run i s')) :
    i.isEvent = true ∧ s'.ep0Stall = s.ep0Stall := by
  cases h
  case powerOn => exact ⟨rfl, rfl⟩
  case service hpending => exact ⟨pendingEvent_isEvent hpending, rfl⟩
  case inject hw _ => exact ⟨eventOf_isEvent hw, rfl⟩

/-! ### The engine while the outside world moves -/

theorem hostStep_sameEngine (a : HostAction) (s : State) : SameEngine s (hostStep a s) := by
  obtain ⟨got, h | ⟨-, h⟩ | ⟨-, b, h⟩ | ⟨-, -, h⟩ | ⟨-, d, h⟩ | ⟨-, r, rest, -, h⟩⟩ := hostStep_cases a s <;> rw [h] <;>
    exact ⟨rfl, rfl, rfl, rfl, rfl, rfl, rfl, rfl, rfl, rfl, rfl, rfl, rfl, rfl, rfl, rfl, rfl, rfl⟩

theorem sameEngine_inputTaken (s : State) : SameEngine s (inputTaken s) :=
  ⟨rfl, rfl, rfl, rfl, rfl, rfl, rfl, rfl, rfl, rfl, rfl, rfl, rfl, rfl, rfl, rfl, rfl, rfl⟩

/-- A turn that passes moves no engine register. -/
theorem TurnEffect.pass_sameEngine {s t : State} (h : TurnEffect s (.pass t)) : SameEngine s t := by
  cases h
  case host a => exact hostStep_sameEngine a (inputTaken s)
  case sample => exact sameEngine_inputTaken s
  case rest => exact sameEngine_inputTaken s
  case ignore => exact sameEngine_inputTaken s

theorem ep0Stall_eq_of_sameEngine {s t : State} (h : SameEngine s t) : t.ep0Stall = s.ep0Stall := by
  obtain ⟨-, -, -, -, -, -, -, -, -, -, -, -, hstall, -⟩ := h
  exact hstall

/-- Settles O47: a passing turn keeps the STALL request, and so does every event's handler but the three. -/
theorem stallEndsOnlyAtSetupOrBusReset : Obligations.StallEndsOnlyAtSetupOrBusReset := by
  intro s t hstep hset hclear
  have hchanged : t.ep0Stall ≠ s.ep0Stall := by rw [hset, hclear]; decide
  obtain hpass | ⟨i, s', hrun, hturn, heffect⟩ := step_next_cases hstep
  case inl => exact absurd (ep0Stall_eq_of_sameEngine hpass.pass_sameEngine) hchanged
  case inr =>
    refine ⟨i, s', hrun, ?_⟩
    obtain ⟨hevent, hsame⟩ := hturn.run_frame
    by_contra hnot
    rw [not_or, not_or] at hnot
    obtain ⟨hsetup, hreset, hpower⟩ := hnot
    exact hchanged ((heffect.ep0Stall_eq hpower hsetup hreset hevent).trans hsame)

/-- Settles O48: halted, no event is pending and only POWER_ON is taken when injected, so the turn passes; with no
input it is stuck. -/
theorem haltIsPermanent : Obligations.HaltIsPermanent := by
  refine fun s hon hhalted => ⟨fun t hstep hinput => ?frame, fun hinputs => step_stuck hon hinputs hhalted⟩
  case frame =>
    obtain hpass | ⟨i, s', -, hturn, -⟩ := step_next_cases hstep
    case inl => exact hpass.pass_sameEngine
    case inr =>
      cases hturn
      case powerOn hoff => rw [hon] at hoff; cases hoff
      case service hpending => rw [pendingEvent_of_halted hhalted] at hpending; cases hpending
      case inject w rest hinputs hw hrun =>
        exact absurd ((eventOf_eq_powerOn_iff hw).1 (hrun hhalted) ▸ hinputs) (hinput rest)

end Sys2Proof.Machine

/-! The invariant (10_state.md R36 and the flag rules): POWER_ON establishes it, every handler and host action keeps
it. -/

namespace Sys2Proof.Machine
open Sys2Proof.Expect

/-- The state rules and the flag rules: the invariant of an engine that is not halted. -/
abbrev Consistent (s : State) : Prop := StateRules s ∧ FlagRules s

section
variable {s t : State}

theorem flagRules_of_clear (hsetup : t.flagSetup = false) (hin : t.flagIn0 = false) (hout : t.flagOut0 = false) :
    FlagRules t :=
  ⟨fun h => absurd (hin.symm.trans h) (by decide), fun h => absurd (hsetup.symm.trans h) (by decide),
    fun _ => ⟨hsetup, hout, hin⟩⟩

/-! ### POWER_ON and BUS_RESET -/

theorem consistent_resetItems (s : State) : Consistent (resetItems s) := by
  refine ⟨⟨fun _ => ⟨rfl, rfl⟩, fun _ => ⟨rfl, rfl, rfl⟩, ⟨⟨?_, ?_⟩, ?_⟩, rfl, fun h => absurd rfl h,
    Nat.zero_le _, fun _ => rfl⟩, flagRules_of_clear rfl rfl rfl⟩ <;> exact nofun

theorem consistent_busReset (s : State) : Consistent { afterBusReset s with ep0Enabled := true } := by
  refine ⟨⟨?_, fun _ => ⟨rfl, rfl, rfl⟩, ⟨⟨?_, ?_⟩, ?_⟩, rfl, fun h => absurd rfl h, Nat.zero_le _, fun _ => rfl⟩,
    flagRules_of_clear rfl rfl rfl⟩ <;> exact nofun

/-! ### Requests -/

/-- A request runs with endpoint 0 enabled, so not in POWERED. -/
theorem devState_ne_powered (hs : StateRules s) (henabled : s.ep0Enabled = true) : s.devState ≠ .powered := by
  intro hpowered
  rw [(hs.1 hpowered).1] at henabled
  cases henabled

/-- A request leaves a packet armed only with its stage begun, and writes DEV_STATE, CONFIGURATION and endpoint 1
together. -/
theorem RequestEffect.stateRules {i : Instr} (h : RequestEffect s i t) (hs : StateRules s)
    (henabled : s.ep0Enabled = true) (hrunning : t.halted = false) : StateRules t := by
  have hne := devState_ne_powered hs henabled
  obtain ⟨-, hdefault, hactive, halt, -, hbanks⟩ := hs
  cases h
  case stalled => exact ⟨fun h => absurd h hne, hdefault, hactive, halt, fun h => absurd rfl h, hbanks⟩
  case data | reportData => exact ⟨fun h => absurd h hne, hdefault, hactive, halt, fun _ => .inl rfl, hbanks⟩
  case status | reportStatus | address | idleRate =>
    exact ⟨fun h => absurd h hne, hdefault, hactive, halt, fun _ => .inr rfl, hbanks⟩
  case interface => exact ⟨fun h => absurd h hne, hdefault, hactive, rfl, fun _ => .inr rfl, hbanks⟩
  case unconfigured =>
    exact ⟨nofun, nofun, ⟨⟨nofun, nofun⟩, nofun⟩, halt, fun _ => .inr rfl, Nat.zero_le _, fun _ => rfl⟩
  case configured hn =>
    exact ⟨nofun, nofun, ⟨⟨fun _ => rfl, fun _ => rfl⟩, fun _ => hn⟩, rfl, fun _ => .inr rfl, Nat.zero_le _, nofun⟩
  case rejected => cases hrunning

theorem RequestEffect.consistent {i : Instr} (h : RequestEffect s i t) (hs : StateRules s)
    (henabled : s.ep0Enabled = true) (hrunning : t.halted = false) : Consistent t := by
  obtain ⟨hsetup, hin, hout⟩ := h.flags_clear
  exact ⟨h.stateRules hs henabled hrunning, flagRules_of_clear hsetup hin hout⟩

/-! ### The packet handlers -/

/-- IN_READY(0) runs with its flag set, so with endpoint 0 enabled and its bank taken. -/
theorem consistent_inReady0 (h : HandlerEffect s .inReady0 t) (hs : Consistent s) (hflag : s.flagIn0 = true) :
    Consistent t := by
  obtain ⟨hrules, hin, hsetup, hdisabled⟩ := hs
  have henabled : s.ep0Enabled = true := by
    by_contra hoff
    rw [(hdisabled (Bool.eq_false_iff.2 hoff)).2.2] at hflag
    cases hflag
  have hne := devState_ne_powered hrules henabled
  obtain ⟨-, hdefault, hactive, halt, harmed, hbanks⟩ := hrules
  have hflags : ∀ p : Option (List Byte), (false = true → p = none) ∧ (s.flagSetup = true → s.setupRd = 0) ∧
      (s.ep0Enabled = false → s.flagSetup = false ∧ s.flagOut0 = false ∧ false = false) := fun p =>
    ⟨nofun, hsetup, fun hoff => ⟨(hdisabled hoff).1, (hdisabled hoff).2.1, rfl⟩⟩
  cases h
  case nextChunk hstage packet off =>
    exact ⟨⟨fun h => absurd h hne, hdefault, hactive, halt, fun _ => .inl hstage, hbanks⟩, hflags _⟩
  case owedPacket hstage =>
    exact ⟨⟨fun h => absurd h hne, hdefault, hactive, halt, fun _ => .inl hstage, hbanks⟩, hflags _⟩
  case responseDone | statusDone =>
    exact ⟨⟨fun h => absurd h hne, hdefault, hactive, halt, fun h => absurd (hin hflag) h, hbanks⟩, hflags _⟩
  case inIgnored => exact ⟨⟨fun h => absurd h hne, hdefault, hactive, halt, harmed, hbanks⟩, hflags _⟩
  case addressApplied =>
    have hstate : (if s.devState = .default then DevState.addressed else s.devState) ≠ .powered ∧
        (if s.devState = .default then DevState.addressed else s.devState) ≠ .default ∧
        ((if s.devState = .default then DevState.addressed else s.devState) = .configured ↔
          s.devState = .configured) := by
      by_cases h : s.devState = .default
      case pos => simp [h]
      case neg => simp [h, hne]
    obtain ⟨hpowered, hnotDefault, hconfigured⟩ := hstate
    exact ⟨⟨fun h => absurd h hpowered, fun h => absurd h hnotDefault,
      ⟨hactive.1.trans hconfigured.symm, fun h => hactive.2 (hconfigured.1 h)⟩, halt,
      fun h => absurd (hin hflag) h, hbanks⟩, hflags _⟩
  case request hevent _ => cases hevent

theorem consistent_outReceived0 (h : HandlerEffect s .outReceived0 t) (hs : Consistent s) : Consistent t := by
  obtain ⟨⟨hquiet, hdefault, hactive, halt, harmed, hbanks⟩, hin, hsetup, hdisabled⟩ := hs
  have hoff : s.ep0Enabled = false → s.flagSetup = false ∧ false = false ∧ s.flagIn0 = false := fun hoff =>
    ⟨(hdisabled hoff).1, rfl, (hdisabled hoff).2.2⟩
  cases h
  case readEnded =>
    exact ⟨⟨fun h => ⟨(hquiet h).1, rfl⟩, hdefault, hactive, halt, fun h => absurd rfl h, hbanks⟩, fun _ => rfl,
      hsetup, hoff⟩
  case outIgnored => exact ⟨⟨hquiet, hdefault, hactive, halt, harmed, hbanks⟩, hin, hsetup, hoff⟩
  case request hevent _ => cases hevent

theorem consistent_inReady1 (h : HandlerEffect s .inReady1 t) (hs : Consistent s) : Consistent t := by
  cases h
  case reportArmed hfree =>
    obtain ⟨⟨hquiet, hdefault, hactive, halt, harmed, -⟩, hflags⟩ := hs
    obtain ⟨hon, hroom⟩ := (ep1BankFree_iff s).1 hfree
    refine ⟨⟨hquiet, hdefault, hactive, halt, harmed, ?room, fun hoff => ?inactive⟩, hflags⟩
    case room => rw [List.length_append, List.length_singleton]; exact hroom
    case inactive => exact absurd (hon.symm.trans hoff) (by decide)
  case reportIgnored => exact hs
  case request hevent _ => cases hevent

/-- The handler of the event serviced keeps the invariant. -/
theorem consistent_of_service {i : Instr} (hs : Consistent s) (hpending : pendingEvent s = some i)
    (h : HandlerEffect s i t) (hrunning : t.halted = false) : Consistent t := by
  obtain ⟨-, ⟨rfl, -⟩ | ⟨rfl, -, -, henabled⟩ | ⟨rfl, -⟩ | ⟨rfl, -, -, hflag⟩ | ⟨rfl, -⟩⟩ := pendingEvent_cases hpending
  case inl =>
    cases h
    case busReset => exact consistent_busReset s
    case busResetHalt => cases hrunning
    case request hevent _ => cases hevent
  case inr.inl =>
    cases h
    case setup j h => exact h.consistent hs.1 henabled hrunning
    case request hevent _ => cases hevent
  case inr.inr.inl => exact consistent_outReceived0 h hs
  case inr.inr.inr.inl => exact consistent_inReady0 h hs hflag
  case inr.inr.inr.inr => exact consistent_inReady1 h hs

/-! ### The host -/

/-- A token changes the buffers and flags of an enabled endpoint only. -/
theorem consistent_hostStep (a : HostAction) (hs : Consistent s) : Consistent (hostStep a s) := by
  obtain ⟨⟨hquiet, hdefault, hactive, halt, harmed, hbanks⟩, hin, hsetup, hdisabled⟩ := hs
  have hoff : s.ep0Enabled = true → ∀ {P : Prop}, s.ep0Enabled = false → P := fun hon _ hoff =>
    absurd (hon.symm.trans hoff) (by decide)
  obtain ⟨got, h | ⟨-, h⟩ | ⟨hon, b, h⟩ | ⟨hon, -, h⟩ | ⟨hon, d, h⟩ | ⟨hon, r, rest, hreports, h⟩⟩ := hostStep_cases a s
  all_goals rw [h]
  case inl | inr.inl => exact ⟨⟨hquiet, hdefault, hactive, halt, harmed, hbanks⟩, hin, hsetup, hdisabled⟩
  case inr.inr.inl =>
    exact ⟨⟨hquiet, hdefault, hactive, halt, harmed, hbanks⟩, hin, fun _ => rfl, hoff hon⟩
  case inr.inr.inr.inl =>
    exact ⟨⟨hquiet, hdefault, hactive, halt, fun h => absurd rfl h, hbanks⟩, fun _ => rfl, hsetup, hoff hon⟩
  case inr.inr.inr.inr.inl =>
    exact ⟨⟨hquiet, hdefault, hactive, halt, harmed, hbanks⟩, hin, hsetup, hoff hon⟩
  case inr.inr.inr.inr.inr =>
    rw [BanksBounded, hreports, List.length_cons] at hbanks
    exact ⟨⟨hquiet, hdefault, hactive, halt, harmed, Nat.le_of_succ_le hbanks.1,
      fun hoff => absurd (hon.symm.trans hoff) (by decide)⟩, hin, hsetup, hdisabled⟩

theorem hostStep_inputs (a : HostAction) (s : State) : (hostStep a s).inputs = s.inputs := by
  obtain ⟨got, h | ⟨-, h⟩ | ⟨-, b, h⟩ | ⟨-, -, h⟩ | ⟨-, d, h⟩ | ⟨-, r, rest, -, h⟩⟩ := hostStep_cases a s <;> rw [h]

theorem hostStep_halted (a : HostAction) (s : State) : (hostStep a s).halted = s.halted := by
  obtain ⟨got, h | ⟨-, h⟩ | ⟨-, b, h⟩ | ⟨-, -, h⟩ | ⟨-, d, h⟩ | ⟨-, r, rest, -, h⟩⟩ := hostStep_cases a s <;> rw [h]

/-! ### Every step -/

theorem noInjection_inputTaken (h : NoInjection s) : NoInjection (inputTaken s) := fun w hw =>
  h w (List.mem_of_mem_tail hw)

theorem noInjection_of_inputs (h : NoInjection s) (heq : t.inputs = s.inputs) : NoInjection t := fun w hw =>
  h w (heq ▸ hw)

theorem not_noInjection {w : Byte} {rest : List Input} (h : s.inputs = .event w :: rest) : ¬ NoInjection s :=
  fun hnone => hnone w (h ▸ List.mem_cons_self)

theorem legal_powerOn (h : NoInjection s) (heffect : HandlerEffect s .powerOn t) : Legal t := by
  refine ⟨fun _ => ?_, noInjection_of_inputs h heffect.world.inputs⟩
  cases heffect
  case powerOn => exact consistent_resetItems s
  case request hevent _ => cases hevent

theorem legal_of_pass (h : TurnEffect s (.pass t)) (hs : Legal s) : Legal t := by
  obtain ⟨hconsistent, hnone⟩ := hs
  have htaken := noInjection_inputTaken hnone
  cases h
  case host a =>
    refine ⟨fun hrunning => ?_, noInjection_of_inputs htaken (hostStep_inputs a _)⟩
    rw [hostStep_halted] at hrunning
    exact consistent_hostStep a (hconsistent hrunning)
  case sample d => exact ⟨hconsistent, htaken⟩
  case rest => exact ⟨hconsistent, htaken⟩
  case ignore => exact ⟨hconsistent, htaken⟩

theorem legal_of_service {i : Instr} (hs : Legal s) (hpending : pendingEvent s = some i)
    (h : HandlerEffect s i t) : Legal t :=
  ⟨fun hrunning => consistent_of_service (hs.1 (pendingEvent_cases hpending).1) hpending h hrunning,
    noInjection_of_inputs hs.2 h.world.inputs⟩

theorem legal_inputTaken (h : Legal s) : Legal (inputTaken s) := ⟨h.1, noInjection_inputTaken h.2⟩

end

/-- Settles O51: the reset state evaluates, and POWER_ON answers the reset values. -/
theorem powerOnEstablishesLegal : Obligations.PowerOnEstablishesLegal :=
  ⟨⟨by decide, by decide⟩, fun _ _ hnone hexec => legal_powerOn hnone (handlerEffect_of_exec hexec)⟩

/-- Settles O52: the turn passes, or runs POWER_ON or the pending event; no word is injected. -/
theorem stepKeepsLegal : Obligations.StepKeepsLegal := by
  intro s t hs hstep
  obtain hpass | ⟨i, s', -, hturn, heffect⟩ := step_next_cases hstep
  case inl => exact legal_of_pass hpass hs
  case inr =>
    cases hturn
    case powerOn => exact legal_powerOn hs.2 heffect
    case service hpending => exact legal_of_service (legal_inputTaken hs) hpending heffect
    case inject hinputs _ _ => exact absurd hs.2 (not_noInjection hinputs)

/-- A run keeps the invariant. -/
theorem run_keeps_legal {n : Nat} {s t : State} (hs : Legal s) (hrun : Sys2Proof.core.run n s = .next t) : Legal t := by
  induction n generalizing s with
  | zero => exact Host.Outcome.next.inj ((run_zero s).symm.trans hrun) ▸ hs
  | succ n ih =>
    obtain ⟨u, hstep, hrest⟩ := run_succ_inv hrun
    exact ih (stepKeepsLegal s u hs hstep) hrest

/-- Settles O53: the reset state meets the invariant whatever the parameters and the moves, and a run keeps it. -/
theorem reachableStatesMeetTheStateRules : Obligations.ReachableStatesMeetTheStateRules := by
  intro p moves n t hmoves hrun hrunning
  have hlegal : Legal { State.reset with params := p, inputs := moves } :=
    ⟨fun _ => consistent_resetItems { State.reset with params := p, inputs := moves }, hmoves⟩
  exact ((run_keeps_legal hlegal hrun).1 hrunning).1

end Sys2Proof.Machine

/-! No step of a legal state stops but the halted engine's, and the engine comes to rest (20_memory.md R39,
40_enumeration.md R73). -/

namespace Sys2Proof.Machine
open Sys2Proof.Expect

section
variable {s t : State}

/-! ### The precondition of every primitive is met -/

theorem exec_powerOn_of_admitted (hadmitted : Admitted s.params) : ∃ t, exec .powerOn s = .next t :=
  ⟨_, (exec_powerOn s).trans (execPowerOn_of_admitted hadmitted)⟩

theorem exec_busReset_next (s : State) : ∃ t, exec .busReset s = .next t := by
  by_cases haccepted : ep0Accepted s.params
  case pos => exact ⟨_, exec_busReset_of_accepted haccepted⟩
  case neg => exact ⟨_, exec_busReset_of_rejected haccepted⟩

theorem exec_outReceived0_next (s : State) : ∃ t, exec .outReceived0 s = .next t := by
  obtain ⟨-, hnext⟩ | ⟨-, hnext⟩ := execOutReceived0_cases s <;> exact ⟨_, hnext⟩

theorem exec_inReady1_next (s : State) : ∃ t, exec .inReady1 s = .next t := by
  obtain ⟨-, hnext⟩ | ⟨-, hnext⟩ := execInReady1_cases s <;> exact ⟨_, hnext⟩

/-- A free bank is all that the packets of DATA_IN ask for. -/
theorem continueData_next (hfree : s.ep0In = none) : ∃ t, continueData s = .next t := by
  by_cases hlt : s.ctlOff.toNat < s.ctlLen.toNat
  case pos => exact ⟨_, continueData_of_lt hfree hlt⟩
  case neg =>
    cases howed : s.zlpOwed with
    | true => exact ⟨_, continueData_of_owed hfree hlt howed⟩
    | false => exact ⟨_, continueData_of_done hlt howed⟩

theorem exec_inReady0_next (hfree : s.ep0In = none) : ∃ t, exec .inReady0 s = .next t := by
  rw [exec_inReady0]
  cases hstage : s.ctlStage with
  | dataIn => rw [execInReady0_of_dataIn hstage]; exact continueData_next hfree
  | statusIn => exact ⟨_, execInReady0_of_statusIn hstage⟩
  | idle => exact ⟨_, execInReady0_of_no_transfer (.inl hstage)⟩
  | statusOut => exact ⟨_, execInReady0_of_no_transfer (.inr hstage)⟩

/-- The flag rules give the packet handlers a free bank and SETUP_RECEIVED an unread latch. -/
theorem exec_service_next {i : Instr} (hs : Consistent s) (hadmitted : Admitted s.params)
    (hpending : pendingEvent s = some i) : ∃ t, exec i s = .next t := by
  obtain ⟨-, hin, hsetup, -⟩ := hs
  obtain ⟨-, ⟨rfl, -⟩ | ⟨rfl, -, hflag, -⟩ | ⟨rfl, -⟩ | ⟨rfl, -, -, hflag⟩ | ⟨rfl, -⟩⟩ := pendingEvent_cases hpending
  case inl => exact exec_busReset_next s
  case inr.inl =>
    obtain ⟨t, ht, -⟩ := everySetupPacketIsServed s (hsetup hflag) hadmitted
    exact ⟨t, ht⟩
  case inr.inr.inl => exact exec_outReceived0_next s
  case inr.inr.inr.inl => exact exec_inReady0_next (hin hflag)
  case inr.inr.inr.inr => exact exec_inReady1_next s

theorem safeOutcome_of_next {o : Out} (h : ∃ t, o = .next t) : SafeOutcome o := by
  obtain ⟨t, rfl⟩ := h
  trivial

/-- Settles O54: the turn passes, is stuck by the halt, or runs POWER_ON or the pending event; no word is injected. -/
theorem legalStepsStopOnlyWhenHalted : Obligations.LegalStepsStopOnlyWhenHalted := by
  intro s hs hadmitted
  have hturn := turnEffect_nextTurn s
  unfold step
  generalize nextTurn s = turn at hturn
  cases hturn
  case powerOn => exact safeOutcome_of_next (exec_powerOn_of_admitted hadmitted)
  case service hpending =>
    exact safeOutcome_of_next
      (exec_service_next (s := inputTaken s) (hs.1 (pendingEvent_cases hpending).1) hadmitted hpending)
  case inject hinputs _ _ _ => exact absurd hs.2 (not_noInjection hinputs)
  case unknown hinputs => exact absurd hs.2 (not_noInjection hinputs)
  all_goals trivial

/-! ### The work left -/

/-- A bound on the events the engine services before it rests: a bus reset or a SETUP clears the other flags of
endpoint 0, and each report fills a bank. -/
def workLeft (s : State) : Nat :=
  if s.flagBusReset = true ∨ (s.flagSetup = true ∧ s.ep0Enabled = true) then 1 + s.params.ep1Banks
  else bit s.flagOut0 + bit s.flagIn0 + (s.params.ep1Banks - s.ep1Banks.length)

theorem bit_le_one (b : Bool) : bit b ≤ 1 := by
  cases b <;> decide

theorem workLeft_le (s : State) : workLeft s ≤ 2 + s.params.ep1Banks := by
  have hout := bit_le_one s.flagOut0
  have hin := bit_le_one s.flagIn0
  rw [workLeft]
  split <;> omega

theorem workLeft_of_preempted (h : s.flagBusReset = true ∨ (s.flagSetup = true ∧ s.ep0Enabled = true)) :
    workLeft s = 1 + s.params.ep1Banks := if_pos h

theorem workLeft_of_flags (hreset : s.flagBusReset = false) (hsetup : ¬ (s.flagSetup = true ∧ s.ep0Enabled = true)) :
    workLeft s = bit s.flagOut0 + bit s.flagIn0 + (s.params.ep1Banks - s.ep1Banks.length) :=
  if_neg fun h => h.elim (Bool.eq_false_iff.1 hreset) hsetup

/-- Cleared flags leave the banks at most, so less than a bus reset or a SETUP counts for. -/
theorem workLeft_lt_of_clear (hs : s.flagBusReset = true ∨ (s.flagSetup = true ∧ s.ep0Enabled = true))
    (hparams : t.params = s.params) (hreset : t.flagBusReset = false) (hsetup : t.flagSetup = false)
    (hin : t.flagIn0 = false) (hout : t.flagOut0 = false) : workLeft t < workLeft s := by
  rw [workLeft_of_preempted hs, workLeft_of_flags hreset fun h => absurd (hsetup.symm.trans h.1) (by decide), hin,
    hout, hparams]
  simp only [bit, Bool.false_eq_true, if_false]
  omega

/-- Where the packet handlers are serviced no SETUP is pending. -/
theorem not_setup_of_pendingEvent {i : Instr} (h : pendingEvent s = some i) (hreset : i ≠ .busReset)
    (hsetup : i ≠ .setupReceived) : ¬ (s.flagSetup = true ∧ s.ep0Enabled = true) := by
  rintro ⟨hflag, hon⟩
  unfold pendingEvent at h
  split_ifs at h <;> simp_all

/-- Each event serviced takes at least one from the work left. -/
theorem workLeft_lt_of_service {i : Instr} (hpending : pendingEvent s = some i) (h : HandlerEffect s i t) :
    workLeft t < workLeft s := by
  have hfree := not_setup_of_pendingEvent hpending
  obtain ⟨-, ⟨rfl, hflag⟩ | ⟨rfl, hreset, hflag, hon⟩ | ⟨rfl, hreset, hflag⟩ | ⟨rfl, hreset, -, hflag⟩ |
    ⟨rfl, hreset, -, hbank⟩⟩ := pendingEvent_cases hpending
  case inl =>
    cases h
    case busReset | busResetHalt => exact workLeft_lt_of_clear (.inl hflag) rfl rfl rfl rfl rfl
    case request hevent _ => cases hevent
  case inr.inl =>
    cases h
    case setup j h =>
      obtain ⟨hsetup, hin, hout⟩ := h.flags_clear
      exact workLeft_lt_of_clear (.inr ⟨hflag, hon⟩) h.world.params (h.flagBusReset_eq.trans hreset) hsetup hin hout
    case request hevent _ => cases hevent
  case inr.inr.inl =>
    have hsetup := hfree (by decide) (by decide)
    rw [workLeft_of_flags hreset hsetup, hflag]
    cases h
    case readEnded | outIgnored =>
      refine lt_of_eq_of_lt (workLeft_of_flags hreset hsetup) ?_
      simp [bit]
    case request hevent _ => cases hevent
  case inr.inr.inr.inl =>
    have hsetup := hfree (by decide) (by decide)
    rw [workLeft_of_flags hreset hsetup, hflag]
    cases h
    case request hevent _ => cases hevent
    all_goals
      refine lt_of_eq_of_lt (workLeft_of_flags hreset hsetup) ?_
      simp [bit]
  case inr.inr.inr.inr =>
    have hsetup := hfree (by decide) (by decide)
    obtain ⟨-, hroom⟩ := (ep1BankFree_iff s).1 hbank
    rw [workLeft_of_flags hreset hsetup]
    cases h
    case reportArmed =>
      refine lt_of_eq_of_lt (workLeft_of_flags hreset hsetup) ?_
      simp only [List.length_append, List.length_singleton]
      omega
    case reportIgnored hfull => rw [hbank] at hfull; cases hfull
    case request hevent _ => cases hevent

/-- As many turns as there is work left bring the engine to rest, and at rest it stays. -/
theorem run_turns_to_rest {n : Nat} (hs : Legal s) (hadmitted : Admitted s.params) (hon : s.attached = true)
    (hinputs : s.inputs = List.replicate n .engine) (hwork : workLeft s ≤ n ∨ pendingEvent s = none) :
    ∃ t, Sys2Proof.core.run n s = .next t ∧ pendingEvent t = none := by
  induction n generalizing s with
  | zero =>
    refine ⟨s, run_zero s, ?_⟩
    obtain hwork | hnone := hwork
    case inr => exact hnone
    case inl =>
      cases hpending : pendingEvent s with
      | none => rfl
      | some i =>
        obtain ⟨t, ht⟩ := exec_service_next (hs.1 (pendingEvent_cases hpending).1) hadmitted hpending
        have hless := workLeft_lt_of_service hpending (handlerEffect_of_exec ht)
        omega
  | succ n ih =>
    rw [List.replicate_succ] at hinputs
    have htail : (inputTaken s).inputs = List.replicate n .engine := by rw [inputTaken, hinputs, List.tail_cons]
    have hturn : nextTurn s = engineTurn (inputTaken s) := by
      rw [nextTurn_engine hon hinputs, inputTaken_of_cons hinputs]
    obtain ⟨i, hpending, hrun⟩ | ⟨hnone, hpass⟩ := engineTurn_cases (inputTaken s)
    case inl =>
      obtain ⟨t, ht⟩ :=
        exec_service_next (s := inputTaken s) (hs.1 (pendingEvent_cases hpending).1) hadmitted hpending
      have heffect := handlerEffect_of_exec ht
      have hstep : step s = .next t := (step_run (hturn.trans hrun)).trans ht
      have hless : workLeft t < workLeft s := workLeft_lt_of_service (s := inputTaken s) hpending heffect
      have hleft : workLeft t ≤ n := by
        obtain hwork | hnone := hwork
        · omega
        · exact absurd (hnone.symm.trans hpending) nofun
      rw [run_succ hstep]
      refine ih (stepKeepsLegal s t hs hstep) ?_ (heffect.attached hon) (heffect.world.inputs.trans htail) (.inl hleft)
      rw [Admitted, heffect.world.params]
      exact hadmitted
    case inr =>
      rw [run_succ (step_pass (hturn.trans hpass))]
      exact ih (legal_inputTaken hs) hadmitted hon htail (.inr hnone)

end

/-- Settles O55: the work left is at most two flags and the banks, and the turns are given as inputs. -/
theorem engineComesToRest : Obligations.EngineComesToRest := by
  intro s hs hadmitted hon
  have hlegal : Legal { s with inputs := List.replicate (2 + s.params.ep1Banks) .engine } :=
    ⟨hs.1, fun w hw => by simp at hw⟩
  exact run_turns_to_rest hlegal hadmitted hon rfl (.inl (workLeft_le _))

end Sys2Proof.Machine

/-! The numbered registers (10_state.md R19): widths, fields and reset values. -/

namespace Sys2Proof.Machine

theorem devState_code_lt (d : DevState) : d.code < 4 := by
  cases d <;> decide

theorem ctlStage_code_lt (c : CtlStage) : c.code < 4 := by
  cases c <;> decide

theorem faultCause_code_lt (c : FaultCause) : c.code < 3 := by
  cases c <;> decide

/-- Settles O49: each field is below its width, and the flag registers are sums of bits. -/
theorem reservedBitsReadZero : Obligations.ReservedBitsReadZero := by
  intro s
  have hflags : readReg .ctlFlags s < 4 := by
    have hzlp := bit_le_one s.zlpOwed
    have hpaddr := bit_le_one s.paddrValid
    simp only [readReg]
    omega
  have hstatus : readReg .epStatus s < 8 := by
    have hep0 := bit_le_one s.ep0Enabled
    have hstall := bit_le_one s.ep0Stall
    have hep1 := bit_le_one s.ep1Active
    simp only [readReg]
    omega
  have hfault : readReg .fault s < 6 := by
    have hhalted := bit_le_one s.halted
    have hcause := faultCause_code_lt s.faultCause
    simp only [readReg]
    omega
  have haddress : readReg .address s < 128 := s.address.isLt
  have hpaddr : readReg .ctlPaddr s < 128 := s.ctlPaddr.isLt
  refine ⟨fun r => ?width, haddress, hpaddr, hflags, hstatus, hfault⟩
  cases r
  case devState => exact devState_code_lt s.devState
  case ctlStage => exact ctlStage_code_lt s.ctlStage
  case address => exact haddress.trans (by decide)
  case ctlPaddr => exact hpaddr.trans (by decide)
  case ctlFlags => exact hflags.trans (by decide)
  case epStatus => exact hstatus.trans (by decide)
  case fault => exact hfault.trans (by decide)
  all_goals exact BitVec.isLt _

theorem devState_code_inj {d e : DevState} : d.code = e.code ↔ d = e := by
  cases d <;> cases e <;> decide

theorem ctlStage_code_inj {c d : CtlStage} : c.code = d.code ↔ c = d := by
  cases c <;> cases d <;> decide

theorem faultCause_code_inj {c d : FaultCause} : c.code = d.code ↔ c = d := by
  cases c <;> cases d <;> decide

/-- The bits of CTL_FLAGS. -/
theorem testBit_two_flags (a b : Bool) : (bit a + 2 * bit b).testBit 0 = a ∧ (bit a + 2 * bit b).testBit 1 = b := by
  cases a <;> cases b <;> decide

/-- The bits of EP_STATUS. -/
theorem testBit_three_flags (a b c : Bool) :
    (bit a + 2 * bit b + 4 * bit c).testBit 0 = a ∧ (bit a + 2 * bit b + 4 * bit c).testBit 1 = b ∧
      (bit a + 2 * bit b + 4 * bit c).testBit 2 = c := by
  cases a <;> cases b <;> cases c <;> decide

/-- FAULT's bit 0 and its cause at bits 2:1. -/
theorem fault_fields (h : Bool) (c : FaultCause) :
    (bit h + 2 * c.code).testBit 0 = h ∧ (bit h + 2 * c.code) / 2 % 4 = c.code := by
  cases h <;> cases c <;> decide

theorem readReg_resetItems (s : State) (r : Reg) :
    readReg r (resetItems s) = if r = .lastReport0 then 0x08 else 0 := by
  cases r <;> rfl

/-- Settles O50: numbers and widths evaluate; a coded field is read by its code, a flag by its bit; POWER_ON answers the
reset items, whose registers evaluate. -/
theorem registersStandAsTheMapSays : Obligations.RegistersStandAsTheMapSays := by
  refine ⟨by decide, fun s => ?fields, fun s t r hexec => ?reset⟩
  case fields =>
    obtain ⟨hzlp, hpaddr⟩ := testBit_two_flags s.zlpOwed s.paddrValid
    obtain ⟨hep0, hstall, hep1⟩ := testBit_three_flags s.ep0Enabled s.ep0Stall s.ep1Active
    obtain ⟨hhalted, hcause⟩ := fault_fields s.halted s.faultCause
    have hcauses : ∀ c : FaultCause, readReg .fault s / 2 % 4 = c.code ↔ s.faultCause = c := fun c => by
      rw [← faultCause_code_inj, ← hcause]
      rfl
    exact ⟨devState_code_inj (e := .powered), devState_code_inj (e := .default), devState_code_inj (e := .addressed),
      devState_code_inj (e := .configured), rfl, rfl, rfl, rfl, ctlStage_code_inj (d := .idle),
      ctlStage_code_inj (d := .dataIn), ctlStage_code_inj (d := .statusOut), ctlStage_code_inj (d := .statusIn), rfl,
      rfl, hzlp, hpaddr, rfl, hep0, hstall, hep1, hhalted, hcauses .none, hcauses .ep0Rejected, hcauses .ep1Rejected,
      rfl, rfl, rfl⟩
  case reset =>
    obtain ⟨-, rfl⟩ := execPowerOn_next ((exec_powerOn s).symm.trans hexec)
    have hpower : readReg r (resetItems s) = if r = .lastReport0 then 0x08 else 0 := readReg_resetItems s r
    refine ⟨Eq.trans ?_ hpower, ((readReg_resetItems State.reset r).trans hpower.symm).trans ?_⟩ <;> cases r <;> rfl

end Sys2Proof.Machine

/-! What the admission checks say of the tables' bytes (20_memory.md R54, 30_encoding.md R65). -/

namespace Sys2Proof.Machine
open Sys2Proof.Expect

section
variable {table : List Byte} {k n : Nat}

theorem getElem?_of_byteAt (h : byteAt table k = some n) : table[k]? = some (BitVec.ofNat 8 n) := by
  obtain ⟨b, hb, rfl⟩ := Option.map_eq_some_iff.1 h
  rw [hb, BitVec.ofNat_toNat, BitVec.setWidth_eq]

theorem getElem?_of_bytesAre {want : List (Nat × Nat)} (h : bytesAre table want = true) (hk : (k, n) ∈ want) :
    table[k]? = some (BitVec.ofNat 8 n) :=
  getElem?_of_byteAt (beq_iff_eq.1 (List.all_eq_true.1 h _ hk))

theorem hasField16_of_wordAt (h : wordAt table k = some n) : HasField16 table k n := by
  unfold wordAt at h
  split at h
  case h_1 lo hi hlo hhi => exact ⟨lo, hi, hlo, hhi, by rw [← toNat_le16]; exact Option.some.inj h⟩
  case h_2 => cases h

/-- A field below 256 is its low byte. -/
theorem getElem?_of_wordAt_lt (h : wordAt table k = some n) (hn : n < 256) :
    table[k]? = some (BitVec.ofNat 8 n) ∧ table[k + 1]? = some 0 := by
  obtain ⟨lo, hi, hlo, hhi, hvalue⟩ := hasField16_of_wordAt h
  have hlo' : lo = BitVec.ofNat 8 n := BitVec.eq_of_toNat_eq (by rw [BitVec.toNat_ofNat]; omega)
  have hhi' : hi = 0 := BitVec.eq_of_toNat_eq (show hi.toNat = 0 by omega)
  exact ⟨hlo' ▸ hlo, hhi' ▸ hhi⟩

end

/-! ### The report's fields -/

/-- Fields that fit a layout meet its conditions place by place. -/
theorem fitsLayout_getElem? {ps : List (HidField → Bool)} {fs : List HidField} (h : fitsLayout ps fs = true) {k : Nat}
    {p : HidField → Bool} (hp : ps[k]? = some p) : ∃ f, fs[k]? = some f ∧ p f = true := by
  induction ps generalizing fs k with
  | nil => cases hp
  | cons q qs ih =>
    obtain ⟨f, rest, rfl, hq, hrest⟩ := (fitsLayout_cons_iff q qs fs).1 h
    cases k with
    | zero => exact ⟨f, rfl, Option.some.inj hp ▸ hq⟩
    | succ k => exact ih hrest hp

theorem fitsLayout_length {ps : List (HidField → Bool)} {fs : List HidField} (h : fitsLayout ps fs = true) :
    fs.length = ps.length := by
  induction ps generalizing fs with
  | nil =>
    cases fs with
    | nil => rfl
    | cons f rest => cases h
  | cons q qs ih =>
    obtain ⟨f, rest, rfl, -, hrest⟩ := (fitsLayout_cons_iff q qs fs).1 h
    rw [List.length_cons, List.length_cons, ih hrest]

theorem eq_padding_of_isPadding {f : HidField} (h : f.isPadding = true) : f = .padding := by
  cases f with
  | padding => rfl
  | control c => cases h

theorem exists_control_of_isHat {f : HidField} (h : f.isHat = true) :
    ∃ c, f = .control c ∧ IsControl 0x10039 4 7 c ∧ c.flags = 0x42 ∧ c.globals.angleOk = true := by
  cases f with
  | padding => cases h
  | control c =>
    simp only [HidField.isHat, Bool.and_eq_true, beq_iff_eq] at h
    obtain ⟨⟨⟨⟨⟨husage, hflags⟩, hsize⟩, hmin⟩, hmax⟩, hangle⟩ := h
    exact ⟨c, rfl, ⟨husage, hsize, hmin, hmax⟩, hflags, hangle⟩

theorem exists_control_of_isButton {k : Nat} {f : HidField} (h : f.isButton (k + 1) = true) :
    ∃ c, f = .control c ∧ IsControl (0x90001 + k) 1 1 c := by
  cases f with
  | padding => cases h
  | control c =>
    simp only [HidField.isButton, Bool.and_eq_true, beq_iff_eq] at h
    obtain ⟨⟨⟨husage, hsize⟩, hmin⟩, hmax⟩ := h
    exact ⟨c, rfl, ⟨by rw [husage, usageButton]; omega, hsize, hmin, hmax⟩⟩

/-! ### The places of the layout -/

theorem reportLayout_padding_low {k : Nat} (hk : k < 4) : reportLayout[1 + k]? = some HidField.isPadding := by
  interval_cases k <;> rfl

theorem reportLayout_button {k : Nat} (hk : k < 10) : reportLayout[5 + k]? = some (HidField.isButton (k + 1)) := by
  interval_cases k <;> rfl

theorem reportLayout_padding_high {k : Nat} (hk : k < 6) : reportLayout[15 + k]? = some HidField.isPadding := by
  interval_cases k <;> rfl

theorem describesTheReport_of_fitsLayout {fields : List HidField} (h : fitsLayout reportLayout fields = true) :
    DescribesTheReport fields := by
  have hpadding : ∀ {k : Nat}, reportLayout[k]? = some HidField.isPadding → fields[k]? = some HidField.padding := fun hk => by
    obtain ⟨f, hf, hpad⟩ := fitsLayout_getElem? h hk
    rw [hf, eq_padding_of_isPadding hpad]
  refine ⟨fitsLayout_length h, ?hat, fun k hk => hpadding (reportLayout_padding_low hk), fun k hk => ?button,
    fun k hk => hpadding (reportLayout_padding_high hk)⟩
  case hat =>
    obtain ⟨f, hf, hhat⟩ := fitsLayout_getElem? h (k := 0) rfl
    obtain ⟨c, rfl, hc⟩ := exists_control_of_isHat hhat
    exact ⟨c, hf, hc⟩
  case button =>
    obtain ⟨f, hf, hbutton⟩ := fitsLayout_getElem? h (reportLayout_button hk)
    obtain ⟨c, rfl, hc⟩ := exists_control_of_isButton hbutton
    exact ⟨c, hf, hc⟩

/-- Fields are read from items. -/
theorem reportItems_of_reportFields {table : List Byte} {fields : List HidField}
    (h : reportFields table = some fields) : ∃ items, reportItems table = some items := by
  cases hitems : reportItems table with
  | some items => exact ⟨items, rfl⟩
  | none => rw [reportFields, hitems] at h; cases h

/-! ### The checks, one by one -/

section
variable {p : Params} (h : Admitted p)
include h

theorem admitted_ep0Size : p.ep0Size = 8 ∨ p.ep0Size = 16 ∨ p.ep0Size = 32 ∨ p.ep0Size = 64 := by
  have hcheck := admitted_check h (.ep0Size, [8, 16, 32, 64].contains p.ep0Size) (by simp [admissionChecks])
  simpa using hcheck

theorem admitted_ep1Size : 3 ≤ p.ep1Size ∧ p.ep1Size ≤ 64 := by
  have hcheck := admitted_check h (.ep1Size, reportLen ≤ p.ep1Size && p.ep1Size ≤ 64) (by simp [admissionChecks])
  rw [Bool.and_eq_true, decide_eq_true_eq, decide_eq_true_eq] at hcheck
  exact hcheck

theorem admitted_ep1Banks : p.ep1Banks = 1 ∨ p.ep1Banks = 2 := by
  have hcheck := admitted_check h (.ep1Banks, p.ep1Banks == 1 || p.ep1Banks == 2) (by simp [admissionChecks])
  simpa using hcheck

theorem admitted_ep1Interval : 1 ≤ p.ep1Interval ∧ p.ep1Interval ≤ 255 := by
  have hcheck := admitted_check h (.ep1Interval, 1 ≤ p.ep1Interval && p.ep1Interval ≤ 255)
    (by simp [admissionChecks])
  simpa using hcheck

/-- R54 (2). -/
theorem admitted_device :
    p.desc.device.length = 18 ∧
      bytesAre p.desc.device [(0, 18), (1, 0x01), (7, p.ep0Size), (17, 1)] = true := by
  have hcheck := admitted_check h (.deviceDescriptor, deviceDescriptorOk p) (by simp [admissionChecks])
  simpa only [deviceDescriptorOk, Bool.and_eq_true, beq_iff_eq] using hcheck

/-- R54 (5) of the device and configuration tables. -/
theorem admitted_strings :
    bytesAre p.desc.device [(14, 0), (15, 0), (16, 0)] = true ∧ bytesAre p.desc.config [(6, 0), (17, 0)] = true ∧
      (reportItems p.desc.report).all (fun items => items.all fun i => !i.isString || i.value == 0) = true := by
  have hcheck := admitted_check h (.stringIndex, stringIndicesOk p.desc) (by simp [admissionChecks])
  simpa only [stringIndicesOk, Bool.and_eq_true, and_assoc] using hcheck

/-- R54 (3). -/
theorem admitted_config :
    wordAt p.desc.config 2 = some 34 ∧ 34 ≤ p.desc.config.length ∧
      bytesAre p.desc.config [(0, 9), (1, 0x02), (4, 1), (7, 0x80)] = true ∧ byteAt p.desc.config 5 ≠ some 0 ∧
      bytesAre p.desc.config [(9, 9), (10, 0x04), (11, 0), (12, 0), (13, 1), (14, 0xFF)] = true ∧
      bytesAre p.desc.config [(18, 9), (19, 0x21), (23, 1), (24, 0x22)] = true ∧
      bytesAre p.desc.config [(27, 7), (28, 0x05), (29, 0x81), (33, p.ep1Interval)] = true ∧
      (byteAt p.desc.config 30).any (fun b => b % 4 == 3) = true ∧ wordAt p.desc.config 31 = some p.ep1Size := by
  have hcheck := admitted_check h (.configurationBlock, configurationBlockOk p) (by simp [admissionChecks])
  simpa only [configurationBlockOk, Bool.and_eq_true, beq_iff_eq, bne_iff_ne, decide_eq_true_eq, and_assoc] using hcheck

/-- R54 (4). -/
theorem admitted_hid :
    p.desc.hid = (p.desc.config.drop 18).take 9 ∧ wordAt p.desc.hid 7 = some p.desc.report.length := by
  have hcheck := admitted_check h (.hidDescriptor, hidDescriptorOk p.desc) (by simp [admissionChecks])
  simpa only [hidDescriptorOk, Bool.and_eq_true, beq_iff_eq] using hcheck

/-- R54 (6). -/
theorem admitted_report :
    ∃ fields, reportFields p.desc.report = some fields ∧ fitsLayout reportLayout fields = true := by
  have hcheck := admitted_check h (.reportDescriptor, reportDescriptorOk p.desc.report) (by simp [admissionChecks])
  exact (reportDescriptorOk_iff p.desc.report).1 hcheck

/-! ### The checks in the statement's terms -/

theorem admitted_device_bytes :
    HasBytes p.desc.device [(0, 18), (1, 0x01), (14, 0), (15, 0), (16, 0), (17, 1)] ∧
      p.desc.device[7]?.map BitVec.toNat = some p.ep0Size := by
  obtain ⟨-, hbytes⟩ := admitted_device h
  obtain ⟨hstrings, -⟩ := admitted_strings h
  refine ⟨?bytes, beq_iff_eq.1 (List.all_eq_true.1 hbytes (7, p.ep0Size) (by simp))⟩
  case bytes =>
    simp only [HasBytes, List.forall_mem_cons, List.not_mem_nil, false_imp_iff, implies_true, and_true]
    exact ⟨getElem?_of_bytesAre hbytes (by simp), getElem?_of_bytesAre hbytes (by simp),
      getElem?_of_bytesAre hstrings (by simp), getElem?_of_bytesAre hstrings (by simp),
      getElem?_of_bytesAre hstrings (by simp), getElem?_of_bytesAre hbytes (by simp)⟩

theorem admitted_config_bytes :
    HasBytes p.desc.config
      ([(0, 9), (1, 0x02), (2, 34), (3, 0), (4, 1), (6, 0), (7, 0x80)] ++
       [(9, 9), (10, 0x04), (11, 0), (12, 0), (13, 1), (14, 0xFF), (17, 0)] ++
       [(18, 9), (19, 0x21), (23, 1), (24, 0x22), (27, 7), (28, 0x05), (29, 0x81)]) := by
  obtain ⟨htotal, -, hhead, -, hinterface, hhid, hendpoint, -, -⟩ := admitted_config h
  obtain ⟨-, hstrings, -⟩ := admitted_strings h
  obtain ⟨hlow, hhigh⟩ := getElem?_of_wordAt_lt htotal (by decide)
  simp only [HasBytes, List.cons_append, List.nil_append, List.forall_mem_cons, List.not_mem_nil, false_imp_iff,
    implies_true, and_true]
  refine ⟨getElem?_of_bytesAre hhead ?_, getElem?_of_bytesAre hhead ?_, hlow, hhigh, getElem?_of_bytesAre hhead ?_,
    getElem?_of_bytesAre hstrings ?_, getElem?_of_bytesAre hhead ?_, getElem?_of_bytesAre hinterface ?_,
    getElem?_of_bytesAre hinterface ?_, getElem?_of_bytesAre hinterface ?_, getElem?_of_bytesAre hinterface ?_,
    getElem?_of_bytesAre hinterface ?_, getElem?_of_bytesAre hinterface ?_, getElem?_of_bytesAre hstrings ?_,
    getElem?_of_bytesAre hhid ?_, getElem?_of_bytesAre hhid ?_, getElem?_of_bytesAre hhid ?_,
    getElem?_of_bytesAre hhid ?_, getElem?_of_bytesAre hendpoint ?_, getElem?_of_bytesAre hendpoint ?_,
    getElem?_of_bytesAre hendpoint ?_⟩ <;> simp

theorem admitted_config_fields :
    p.desc.config[5]? ≠ some 0 ∧ (∃ b : Byte, p.desc.config[30]? = some b ∧ b.toNat % 4 = 3) ∧
      HasField16 p.desc.config 31 p.ep1Size ∧ p.desc.config[33]?.map BitVec.toNat = some p.ep1Interval := by
  obtain ⟨-, -, -, hvalue, -, -, hendpoint, hattributes, hsize⟩ := admitted_config h
  refine ⟨fun hzero => hvalue (byteAt_eq_some hzero), ?attributes, hasField16_of_wordAt hsize,
    beq_iff_eq.1 (List.all_eq_true.1 hendpoint (33, p.ep1Interval) (by simp))⟩
  case attributes =>
    cases hb : p.desc.config[30]? with
    | none => simp [byteAt, hb] at hattributes
    | some b => exact ⟨b, rfl, by simpa [byteAt, hb] using hattributes⟩

/-- The HID table is the block's nine bytes from offset 18, which the block's length covers. -/
theorem admitted_hid_bytes : p.desc.hid.length = 9 ∧ p.desc.hid[0]? = some 9 := by
  obtain ⟨hcopy, -⟩ := admitted_hid h
  obtain ⟨-, hlength, -, -, -, hhid, -⟩ := admitted_config h
  have hfirst : p.desc.config[18]? = some 9 := getElem?_of_bytesAre hhid (by simp)
  refine ⟨?_, ?_⟩
  · rw [hcopy, List.length_take, List.length_drop]
    omega
  · rw [hcopy, List.getElem?_take_of_lt (by decide), List.getElem?_drop]
    exact hfirst

theorem admitted_report_items :
    ∃ items, reportItems p.desc.report = some items ∧
      ∀ i ∈ items, i.kind = 2 → 7 ≤ i.tag → i.tag ≤ 9 → i.value = 0 := by
  obtain ⟨fields, hfields, -⟩ := admitted_report h
  obtain ⟨items, hitems⟩ := reportItems_of_reportFields hfields
  obtain ⟨-, -, hstrings⟩ := admitted_strings h
  refine ⟨items, hitems, fun i hi hkind hlow hhigh => ?_⟩
  rw [hitems, Option.all_some, List.all_eq_true] at hstrings
  simpa [HidItem.isString, hkind, hlow, hhigh] using hstrings i hi

end

/-- Settles O15: each clause is an admission check, read in the statement's terms. -/
theorem admittedParametersMeetTheConstraints : Obligations.AdmittedParametersMeetTheConstraints := by
  intro p h
  obtain ⟨hsizeLow, hsizeHigh⟩ := admitted_ep1Size h
  obtain ⟨hintervalLow, hintervalHigh⟩ := admitted_ep1Interval h
  obtain ⟨hdevice, hep0Size⟩ := admitted_device_bytes h
  obtain ⟨hvalue, hattributes, hep1Size, hinterval⟩ := admitted_config_fields h
  obtain ⟨hhidLength, hhidFirst⟩ := admitted_hid_bytes h
  obtain ⟨hcopy, hreportLength⟩ := admitted_hid h
  obtain ⟨fields, hfields, hlayout⟩ := admitted_report h
  exact ⟨admitted_ep0Size h, hsizeLow, hsizeHigh, admitted_ep1Banks h, hintervalLow, hintervalHigh,
    (admitted_device h).1, hdevice, hep0Size, (admitted_config h).2.1, admitted_config_bytes h, hvalue, hattributes,
    hep1Size, hinterval, hcopy, hhidLength, hhidFirst, hasField16_of_wordAt hreportLength, admitted_report_items h,
    fields, hfields, describesTheReport_of_fitsLayout hlayout⟩

end Sys2Proof.Machine

/-! One packet of endpoint 0 (60_exceptions.md R135, 41_control_transfer.md R83): the host takes it, and the engine's
turn is IN_READY(0). -/

namespace Sys2Proof.Machine
open Sys2Proof.Expect

/-- Endpoint 0 answers an IN with its packet, and IN_READY(0) is the event the engine services after it. -/
structure InTransfer (s : State) : Prop where
  ready : Ready s
  flagSetup : s.flagSetup = false
  flagOut0 : s.flagOut0 = false
  ep0Stall : s.ep0Stall = false

/-- The host has taken the packet `p`. -/
def packetTaken (p : List Byte) (rest : List Input) (s : State) : State :=
  { s with ep0In := none, flagIn0 := true, inputs := rest, answers := s.answers ++ [.data p] }

section
variable {s t : State} {rest : List Input}

theorem step_inToken_packet {p : List Byte} (hs : InTransfer s) (hp : s.ep0In = some p)
    (hinputs : s.inputs = .host (.inToken s.address 0) :: rest) : step s = .next (packetTaken p rest s) := by
  obtain ⟨hattached, -, hreset, henabled⟩ := hs.ready
  have hok : Ok s.address { s with inputs := rest } := ⟨hattached, hreset, rfl⟩
  have hhost := hostStep_inToken_zero
    (hostIn0_of_packet (answersTo_and_eq_true hok henabled) hs.flagSetup hs.ep0Stall hp)
  rw [hostMovesAreTakenInEveryState s _ rest hattached hinputs, hhost]
  rfl

theorem step_engine_inReady0 (hs : InTransfer s) (hflag : s.flagIn0 = true) (hinputs : s.inputs = .engine :: rest) :
    step s = exec .inReady0 { s with inputs := rest } := by
  obtain ⟨hattached, hrunning, hreset, -⟩ := hs.ready
  rw [(engineServicesTheFirstPendingEvent s hattached).2.2.2 rest hinputs hrunning]
  simp [engineStep, hreset, hs.flagSetup, hs.flagOut0, hflag]

/-- A round of an IN token and an engine turn takes the packet and runs IN_READY(0). -/
theorem run_inRound {n : Nat} {p : List Byte} (hs : InTransfer s) (hp : s.ep0In = some p)
    (hinputs : s.inputs = .host (.inToken s.address 0) :: .engine :: rest)
    (ht : exec .inReady0 (packetTaken p rest s) = .next t) :
    Sys2Proof.core.run (n + 2) s = Sys2Proof.core.run n t := by
  have htaken : InTransfer (packetTaken p (.engine :: rest) s) := ⟨hs.ready, hs.flagSetup, hs.flagOut0, hs.ep0Stall⟩
  have hturn := step_engine_inReady0 htaken rfl rfl
  rw [run_succ (step_inToken_packet hs hp hinputs), run_succ (hturn.trans ht)]

/-- In STATUS_IN the round completes the transfer. -/
theorem run_statusRound {n : Nat} {p : List Byte} (hs : InTransfer s) (hstage : s.ctlStage = .statusIn)
    (hp : s.ep0In = some p) (hinputs : s.inputs = .host (.inToken s.address 0) :: .engine :: rest) :
    Sys2Proof.core.run (n + 2) s
      = Sys2Proof.core.run n (completeStatus { packetTaken p rest s with flagIn0 := false }) :=
  run_inRound hs hp hinputs (execInReady0_of_statusIn (s := packetTaken p rest s) hstage)

end

/-- Settles O43: SET_ADDRESS arms the status packet and writes neither register; the packet is taken at the old address,
and IN_READY(0) in STATUS_IN applies the pending one. -/
theorem setAddressTakesEffectAfterItsStatusPacket : Obligations.SetAddressTakesEffectAfterItsStatusPacket := by
  intro s t a hs haddress hexec
  rw [exec_setAddress_of_ne_zero haddress] at hexec
  cases hexec
  have hrun := run_statusRound (n := 0) (p := []) (rest := [])
    (s := { statusArmed s with
      ctlPaddr := BitVec.ofNat 7 a.value.toNat, paddrValid := true, inputs := inRounds s.address 1 })
    ⟨hs, rfl, rfl, rfl⟩ rfl rfl rfl
  exact ⟨rfl, rfl, _, hrun.trans (run_zero _), rfl, rfl, rfl, rfl, rfl⟩

end Sys2Proof.Machine

/-! The data stage (41_control_transfer.md R81, R83, R86): its packets, and the run that delivers them. -/

namespace Sys2Proof.Machine
open Sys2Proof.Expect

/-! ### Packets -/

theorem chunks_nil (size fuel : Nat) : chunks size fuel [] = [] := by
  cases fuel <;> rfl

theorem chunks_succ {size fuel : Nat} {bytes : List Byte} (h : bytes ≠ []) :
    chunks size (fuel + 1) bytes = bytes.take size :: chunks size fuel (bytes.drop size) := by
  cases bytes with
  | nil => exact absurd rfl h
  | cons b bytes => rfl

theorem chunks_of_pos {size fuel : Nat} {bytes : List Byte} (hfuel : 0 < fuel) (h : bytes ≠ []) :
    chunks size fuel bytes = bytes.take size :: chunks size (fuel - 1) (bytes.drop size) := by
  obtain ⟨fuel, rfl⟩ := Nat.exists_eq_succ_of_ne_zero hfuel.ne'
  exact chunks_succ h

theorem chunks_flatten {size fuel : Nat} {bytes : List Byte} (hsize : 0 < size) (hfuel : bytes.length ≤ fuel) :
    (chunks size fuel bytes).flatten = bytes := by
  induction fuel generalizing bytes with
  | zero => rw [List.length_eq_zero_iff.1 (Nat.le_zero.1 hfuel), chunks_nil, List.flatten_nil]
  | succ fuel ih =>
    by_cases hbytes : bytes = []
    case pos => rw [hbytes, chunks_nil, List.flatten_nil]
    case neg =>
      have hrest : (bytes.drop size).length ≤ fuel := by rw [List.length_drop]; omega
      rw [chunks_succ hbytes, List.flatten_cons, ih hrest, List.take_append_drop]

/-- The zero-length packet a transfer still owes. -/
def owedPackets (owed : Bool) : List (List Byte) := if owed then [[]] else []

/-! ### A data stage under way -/

/-- A data stage with a packet armed: CTL_BUF holds CTL_LEN bytes, CTL_OFF of them sent or armed. -/
structure Sending (s : State) : Prop extends InTransfer s where
  stage : s.ctlStage = .dataIn
  size : 0 < s.params.ep0Size
  length : s.ctlBuf.length = s.ctlLen.toNat
  offset : s.ctlOff.toNat ≤ s.ctlLen.toNat

/-- What the packets after the armed one are, for a response of at most `fuel` bytes left. -/
def packetsLeft (fuel : Nat) (s : State) : List (List Byte) :=
  chunks s.params.ep0Size fuel (s.ctlBuf.drop s.ctlOff.toNat) ++ owedPackets s.zlpOwed

/-- The run ends with the packets delivered and the status stage awaited. -/
def Delivers (s : State) (packets : List (List Byte)) : Prop :=
  ∃ t, Sys2Proof.core.run (2 * packets.length) s = .next t ∧ t.answers = s.answers ++ packets.map .data ∧
    t.ctlStage = .statusOut ∧ t.ep0In = none ∧ t.zlpOwed = false ∧ t.inputs = []

section
variable {s t : State} {p : List Byte}

theorem sending_packetTaken (hs : Sending s) (p : List Byte) (rest : List Input) : Sending (packetTaken p rest s) :=
  ⟨⟨hs.ready, hs.flagSetup, hs.flagOut0, hs.ep0Stall⟩, hs.stage, hs.size, hs.length, hs.offset⟩

/-- One round takes the armed packet; what the rest of the run delivers follows it. -/
theorem delivers_cons {packets : List (List Byte)} (hs : InTransfer s) (hp : s.ep0In = some p)
    (hinputs : s.inputs = inRounds s.address (packets.length + 1))
    (ht : exec .inReady0 (packetTaken p (inRounds s.address packets.length) s) = .next t)
    (hanswers : t.answers = s.answers ++ [.data p]) (hrest : Delivers t packets) : Delivers s (p :: packets) := by
  obtain ⟨u, hrun, hgot, hstage, hfree, howed, hdone⟩ := hrest
  refine ⟨u, ?_, ?_, hstage, hfree, howed, hdone⟩
  · rw [List.length_cons, Nat.mul_succ, run_inRound hs hp hinputs ht, hrun]
  · rw [hgot, hanswers, List.map_cons, List.append_assoc, List.singleton_append]

/-- With nothing left the last packet's turn goes to STATUS_OUT. -/
theorem delivers_last (hs : Sending s) (hp : s.ep0In = some p) (hdone : s.ctlOff.toNat = s.ctlLen.toNat)
    (howed : s.zlpOwed = false) (hinputs : s.inputs = inRounds s.address 1) : Delivers s [p] := by
  obtain ⟨-, -, hend, -⟩ := inReadyZeroContinuesTheTransfer.2 (packetTaken p (inRounds s.address 0) s)
  have hnone : ¬ s.ctlOff.toNat < s.ctlLen.toNat := by omega
  exact delivers_cons hs.toInTransfer hp hinputs (hend hs.stage hnone howed) rfl
    ⟨_, run_zero _, (List.append_nil _).symm, rfl, rfl, howed, rfl⟩

/-- With all bytes sent, the packets left are the one owed, if any. -/
theorem delivers_sent (hs : Sending s) (hp : s.ep0In = some p) (hdone : s.ctlOff.toNat = s.ctlLen.toNat)
    (hinputs : s.inputs = inRounds s.address ((owedPackets s.zlpOwed).length + 1)) :
    Delivers s (p :: owedPackets s.zlpOwed) := by
  cases howed : s.zlpOwed with
  | false =>
    rw [howed] at hinputs
    exact delivers_last hs hp hdone howed hinputs
  | true =>
    rw [howed] at hinputs
    obtain ⟨-, hzlp, -⟩ := inReadyZeroContinuesTheTransfer.2 (packetTaken p (inRounds s.address 1) s)
    have hnone : ¬ s.ctlOff.toNat < s.ctlLen.toNat := by omega
    obtain ⟨⟨hready, hsetup, hout, hstall⟩, hstage, hsize, hlength, hoff⟩ := hs
    exact delivers_cons (packets := [[]]) ⟨hready, hsetup, hout, hstall⟩ hp hinputs (hzlp rfl hstage hnone howed) rfl
      (delivers_last ⟨⟨hready, hsetup, hout, hstall⟩, hstage, hsize, hlength, hoff⟩ rfl hdone rfl rfl)

/-- Taking or dropping past the end of a list is taking or dropping all of it. -/
theorem take_min_length {α : Type} (n : Nat) (l : List α) : l.take (min n l.length) = l.take n := by
  rw [← List.take_take, List.take_length]

theorem drop_min_length {α : Type} (n : Nat) (l : List α) : l.drop (min n l.length) = l.drop n := by
  obtain h | h := Nat.le_total n l.length
  · rw [Nat.min_eq_left h]
  · rw [Nat.min_eq_right h, List.drop_length, List.drop_of_length_le h]

/-- The length of the next chunk (41_control_transfer.md R83). -/
def chunkLength (s : State) : Nat := min s.params.ep0Size (s.ctlLen.toNat - s.ctlOff.toNat)

/-- The next chunk armed. -/
def chunkArmed (s : State) : State :=
  { s with
    flagIn0 := false, ep0In := some ((s.ctlBuf.drop s.ctlOff.toNat).take (chunkLength s)),
    ctlOff := BitVec.ofNat 16 (s.ctlOff.toNat + chunkLength s) }

theorem chunkLength_eq (hs : Sending s) :
    chunkLength s = min s.params.ep0Size (s.ctlBuf.drop s.ctlOff.toNat).length := by
  rw [chunkLength, List.length_drop, hs.length]

theorem chunkArmed_ctlOff (hs : Sending s) : (chunkArmed s).ctlOff.toNat = s.ctlOff.toNat + chunkLength s := by
  have hlen := s.ctlLen.isLt
  have hoff := hs.offset
  rw [chunkArmed, BitVec.toNat_ofNat, chunkLength]
  omega

theorem sending_chunkArmed (hs : Sending s) : Sending (chunkArmed s) := by
  refine ⟨⟨hs.ready, hs.flagSetup, hs.flagOut0, hs.ep0Stall⟩, hs.stage, hs.size, hs.length, ?_⟩
  have hoff := hs.offset
  change (chunkArmed s).ctlOff.toNat ≤ s.ctlLen.toNat
  rw [chunkArmed_ctlOff hs, chunkLength]
  omega

theorem bytesLeft_chunkArmed {fuel : Nat} (hs : Sending s) (hlt : s.ctlOff.toNat < s.ctlLen.toNat)
    (hfuel : s.ctlLen.toNat - s.ctlOff.toNat ≤ fuel + 1) :
    (chunkArmed s).ctlLen.toNat - (chunkArmed s).ctlOff.toNat ≤ fuel := by
  have hsize := hs.size
  have hlen : (chunkArmed s).ctlLen = s.ctlLen := rfl
  rw [chunkArmed_ctlOff hs, hlen, chunkLength]
  omega

/-- While bytes are left the first packet of them is the next chunk. -/
theorem packetsLeft_succ {fuel : Nat} (hs : Sending s) (hlt : s.ctlOff.toNat < s.ctlLen.toNat) :
    packetsLeft (fuel + 1) s
      = (s.ctlBuf.drop s.ctlOff.toNat).take (chunkLength s) :: packetsLeft fuel (chunkArmed s) := by
  have hne : s.ctlBuf.drop s.ctlOff.toNat ≠ [] := by
    rw [Ne, List.drop_eq_nil_iff, hs.length]
    omega
  have hrest : s.ctlBuf.drop (s.ctlOff.toNat + chunkLength s)
      = (s.ctlBuf.drop s.ctlOff.toNat).drop s.params.ep0Size := by
    rw [← List.drop_drop, chunkLength_eq hs, drop_min_length]
  have hnext : packetsLeft fuel (chunkArmed s)
      = chunks s.params.ep0Size fuel (s.ctlBuf.drop (s.ctlOff.toNat + chunkLength s)) ++ owedPackets s.zlpOwed := by
    rw [packetsLeft, chunkArmed_ctlOff hs]
    rfl
  rw [packetsLeft, chunks_succ hne, List.cons_append, hnext, hrest, chunkLength_eq hs, take_min_length]

theorem packetsLeft_of_sent {fuel : Nat} (hs : Sending s) (hdone : s.ctlOff.toNat = s.ctlLen.toNat) :
    packetsLeft fuel s = owedPackets s.zlpOwed := by
  have hnil : s.ctlBuf.drop s.ctlOff.toNat = [] := List.drop_of_length_le (by rw [hs.length, hdone])
  rw [packetsLeft, hnil, chunks_nil, List.nil_append]

/-- The run delivers the armed packet and then the packets left, chunk by chunk. -/
theorem delivers_packetsLeft {fuel : Nat} (hs : Sending s) (hp : s.ep0In = some p)
    (hfuel : s.ctlLen.toNat - s.ctlOff.toNat ≤ fuel)
    (hinputs : s.inputs = inRounds s.address ((packetsLeft fuel s).length + 1)) :
    Delivers s (p :: packetsLeft fuel s) := by
  have hoff := hs.offset
  induction fuel generalizing s p with
  | zero =>
    have hdone : s.ctlOff.toNat = s.ctlLen.toNat := by omega
    rw [packetsLeft_of_sent hs hdone] at hinputs ⊢
    exact delivers_sent hs hp hdone hinputs
  | succ fuel ih =>
    by_cases hlt : s.ctlOff.toNat < s.ctlLen.toNat
    case neg =>
      have hdone : s.ctlOff.toNat = s.ctlLen.toNat := by omega
      rw [packetsLeft_of_sent hs hdone] at hinputs ⊢
      exact delivers_sent hs hp hdone hinputs
    case pos =>
      rw [packetsLeft_succ hs hlt] at hinputs ⊢
      have htaken := sending_packetTaken hs p (inRounds s.address ((packetsLeft fuel (chunkArmed s)).length + 1))
      have hnext := sending_chunkArmed htaken
      obtain ⟨hchunk, -⟩ := inReadyZeroContinuesTheTransfer.2
        (packetTaken p (inRounds s.address ((packetsLeft fuel (chunkArmed s)).length + 1)) s)
      exact delivers_cons hs.toInTransfer hp hinputs (hchunk rfl hs.stage hlt) rfl
        (ih hnext rfl (bytesLeft_chunkArmed htaken hlt hfuel) rfl hnext.offset)

end

/-! ### The stage from its first packet -/

section
variable {s : State} {resp : List Byte} {w : Word}

theorem dataLength_le_length (resp : List Byte) (w : Word) : dataLength resp w ≤ resp.length := Nat.min_le_right _ _

/-- CTL_LEN holds the length: wLength bounds it. -/
theorem toNat_dataLength (resp : List Byte) (w : Word) :
    (BitVec.ofNat 16 (dataLength resp w)).toNat = dataLength resp w := by
  have hw := w.isLt
  rw [BitVec.toNat_ofNat, dataLength]
  omega

theorem toNat_firstOffset (size : Nat) (resp : List Byte) (w : Word) :
    (BitVec.ofNat 16 (min size (dataLength resp w))).toNat = min size (dataLength resp w) := by
  have hw := w.isLt
  rw [BitVec.toNat_ofNat, dataLength]
  omega

theorem length_response (resp : List Byte) (w : Word) : (resp.take (dataLength resp w)).length = dataLength resp w := by
  rw [List.length_take, Nat.min_eq_left (dataLength_le_length resp w)]

theorem sending_dataArmed (hs : Ready s) (hsize : 0 < s.params.ep0Size) : Sending (dataArmed resp w s) := by
  refine ⟨⟨hs, rfl, rfl, rfl⟩, rfl, hsize, ?_, ?_⟩
  · exact (length_response resp w).trans (toNat_dataLength resp w).symm
  · change (BitVec.ofNat 16 _).toNat ≤ (BitVec.ofNat 16 _).toNat
    rw [toNat_firstOffset, toNat_dataLength]
    exact Nat.min_le_right _ _

/-- The packets of a data stage are the first one and those left after it. -/
theorem dataPackets_eq (hpositive : 0 < dataLength resp w) :
    dataPackets s.params.ep0Size resp w
      = resp.take (min s.params.ep0Size (dataLength resp w))
          :: packetsLeft (dataLength resp w - 1) (dataArmed resp w s) := by
  have hne : resp.take (dataLength resp w) ≠ [] := by
    rw [← List.length_pos_iff, length_response]
    exact hpositive
  have hrest : (resp.take (dataLength resp w)).drop (min s.params.ep0Size (dataLength resp w))
      = (resp.take (dataLength resp w)).drop s.params.ep0Size := by
    rw [← drop_min_length s.params.ep0Size, length_response]
  have hleft : packetsLeft (dataLength resp w - 1) (dataArmed resp w s)
      = chunks s.params.ep0Size (dataLength resp w - 1)
          ((resp.take (dataLength resp w)).drop (min s.params.ep0Size (dataLength resp w)))
        ++ if dataLength resp w % s.params.ep0Size = 0 ∧ dataLength resp w < w.toNat then [[]] else [] := by
    rw [packetsLeft, owedPackets]
    simp only [dataArmed, toNat_firstOffset, decide_eq_true_eq]
    rfl
  have hsplit : chunks s.params.ep0Size (dataLength resp w) (resp.take (dataLength resp w))
      = resp.take (min s.params.ep0Size (dataLength resp w))
          :: chunks s.params.ep0Size (dataLength resp w - 1)
              ((resp.take (dataLength resp w)).drop s.params.ep0Size) := by
    rw [← List.take_take]
    exact chunks_of_pos hpositive hne
  rw [dataPackets, hsplit, hleft, hrest, List.cons_append]

theorem dataPackets_flatten {size : Nat} (hsize : 0 < size) :
    (dataPackets size resp w).flatten = resp.take (dataLength resp w) := by
  have howed : (if dataLength resp w % size = 0 ∧ dataLength resp w < w.toNat then [[]] else
      ([] : List (List Byte))).flatten = [] := by split <;> rfl
  rw [dataPackets, List.flatten_append, howed, List.append_nil, chunks_flatten hsize (length_response resp w).le]

/-- The stage starts with its first packet armed; the run delivers it and the packets left. -/
theorem delivers_dataArmed (hs : Ready s) (hsize : 0 < s.params.ep0Size) (hpositive : 0 < dataLength resp w)
    (hinputs : s.inputs = inRounds s.address (dataPackets s.params.ep0Size resp w).length) :
    Delivers (dataArmed resp w s) (dataPackets s.params.ep0Size resp w) := by
  rw [dataPackets_eq hpositive] at hinputs ⊢
  refine delivers_packetsLeft (sending_dataArmed hs hsize) rfl ?_ hinputs
  change (BitVec.ofNat 16 _).toNat - (BitVec.ofNat 16 _).toNat ≤ _
  rw [toNat_firstOffset, toNat_dataLength]
  omega

end

/-- Settles O56: the run from the first packet delivers them all, and they join to the response. -/
theorem dataStageDeliversTheResponse : Obligations.DataStageDeliversTheResponse := by
  intro s resp w hs hsize hpositive
  obtain ⟨t, hrun, hgot, hstage, hfree, howed, hdone⟩ := delivers_dataArmed
    (s := { s with inputs := inRounds s.address (dataPackets s.params.ep0Size resp w).length }) hs hsize hpositive rfl
  exact ⟨t, hrun, hgot, dataPackets_flatten hsize, hstage, hfree, howed, hdone⟩

end Sys2Proof.Machine

/-! GET_DESCRIPTOR to its last packet (20_memory.md R56): admitted tables have no empty entry. -/

namespace Sys2Proof.Machine
open Sys2Proof.Expect

theorem report_ne_nil {p : Params} (h : Admitted p) : p.desc.report ≠ [] := by
  obtain ⟨fields, hfields, -⟩ := admitted_report h
  intro hnil
  rw [hnil] at hfields
  cases hfields

/-- The entry of a table whose length field is not 0 is not empty. -/
theorem readEntry_found_ne_nil {table bytes : List Byte} {n : Nat} (hn : 0 < n)
    (h : readEntry table (some n) = .found bytes) : bytes ≠ [] := by
  unfold readEntry at h
  split at h
  case h_1 found hfound =>
    cases h
    obtain ⟨hfit, rfl⟩ := (memRead_eq_some_iff table _ 0 n).1 hfound
    rw [← List.length_pos_iff, List.length_take, List.length_drop]
    omega
  case h_2 => cases h

theorem found_ne_nil {p : Params} (h : Admitted p) {t : Byte} {bytes : List Byte}
    (hfound : describe p.desc t = .found bytes) : bytes ≠ [] := by
  by_cases hdevice : t = 0x01
  case pos =>
    have hbyte := beq_iff_eq.1 (List.all_eq_true.1 (admitted_device h).2 (0, 18) (by simp))
    rw [hdevice, describe_device, hbyte] at hfound
    exact readEntry_found_ne_nil (by decide) hfound
  by_cases hconfig : t = 0x02
  case pos =>
    rw [hconfig, describe_config, (admitted_config h).1] at hfound
    exact readEntry_found_ne_nil (by decide) hfound
  by_cases hhid : t = 0x21
  case pos =>
    rw [hhid, describe_hid, byteAt_eq_some (admitted_hid_bytes h).2] at hfound
    exact readEntry_found_ne_nil (by decide) hfound
  by_cases hreport : t = 0x22
  case pos =>
    rw [hreport, describe_report] at hfound
    cases hfound
    exact report_ne_nil h
  case neg =>
    rw [describe_of_other_type p.desc hdevice hconfig hhid hreport] at hfound
    cases hfound

theorem admitted_ep0Size_pos {p : Params} (h : Admitted p) : 0 < p.ep0Size := by
  obtain h | h | h | h := admitted_ep0Size h <;> omega

/-- Settles O57: GET_DESCRIPTOR begins a data stage of the found entry, which is not empty, and the stage delivers
it. -/
theorem descriptorReadReassemblesTheStoredEntry : Obligations.DescriptorReadReassemblesTheStoredEntry := by
  intro s a bytes hs hadmitted hfound
  have hexec := (getDescriptorAnswersTheStoredEntry.2 s a).1 bytes hfound
  refine ⟨fun hzero => ?status, fun hnonzero => ?stage⟩
  case status =>
    have hlength : dataLength bytes a.length = 0 := by rw [dataLength, hzero, Nat.zero_min]
    rw [hexec, replied, if_pos hlength]
  case stage =>
    have hpositive : 0 < dataLength bytes a.length :=
      Nat.lt_min.2 ⟨Nat.pos_of_ne_zero hnonzero, List.length_pos_iff.2 (found_ne_nil hadmitted hfound)⟩
    obtain ⟨u, hrun, hgot, hjoin, hstage, -⟩ :=
      dataStageDeliversTheResponse s bytes a.length hs (admitted_ep0Size_pos hadmitted) hpositive
    rw [replied, if_neg hpositive.ne'] at hexec
    exact ⟨_, u, _, hexec, hrun, _, hgot, rfl, hjoin, hstage⟩

end Sys2Proof.Machine

/-! From SET_CONFIGURATION to the first report (45_report_endpoint.md R120). -/

namespace Sys2Proof.Machine
open Sys2Proof.Expect

section
variable {s : State} {rest : List Input}

/-- At rest between transfers, an engine turn fills a free bank. -/
theorem step_engine_inReady1 (hs : InTransfer s) (hflag : s.flagIn0 = false) (hstage : s.ctlStage = .idle)
    (hactive : s.ep1Active = true) (hroom : s.ep1Banks.length < s.params.ep1Banks)
    (hinputs : s.inputs = .engine :: rest) :
    step s = .next { s with
      inputs := rest, lastReport := currentReport s, ep1Banks := s.ep1Banks ++ [currentReport s] } := by
  obtain ⟨hattached, hrunning, hreset, -⟩ := hs.ready
  rw [(engineServicesTheFirstPendingEvent s hattached).2.2.2 rest hinputs hrunning]
  have hchoice : engineStep { s with inputs := rest } = exec .inReady1 { s with inputs := rest } := by
    simp [engineStep, hreset, hs.flagSetup, hs.flagOut0, hflag, hstage, hactive, hroom]
  rw [hchoice, (inReadyOneArmsOneReport.2 { s with inputs := rest }).1 ⟨hactive, hroom⟩]
  rfl

theorem step_inToken_report {r : Report} {reports : List Report} (hs : Ready s) (hactive : s.ep1Active = true)
    (hbanks : s.ep1Banks = r :: reports) (hinputs : s.inputs = .host (.inToken s.address 1) :: rest) :
    step s = .next { s with
      inputs := rest, ep1Banks := reports, answers := s.answers ++ [.data [r.b0, r.b1, r.b2]] } := by
  obtain ⟨hattached, -, hreset, -⟩ := hs
  have hok : Ok s.address { s with inputs := rest } := ⟨hattached, hreset, rfl⟩
  have hhost := hostStep_inToken_one (hostIn1_of_report (answersTo_and_eq_true hok hactive) hbanks)
  rw [hostMovesAreTakenInEveryState s _ rest hattached hinputs, hhost]
  rfl

/-- An idle endpoint 1 arms the current report in its turn, and the next IN takes it. -/
theorem run_reportRound (hs : InTransfer s) (hflag : s.flagIn0 = false) (hstage : s.ctlStage = .idle)
    (hactive : s.ep1Active = true) (hempty : s.ep1Banks = []) (hroom : 0 < s.params.ep1Banks)
    (hinputs : s.inputs = [.engine, .host (.inToken s.address 1)]) :
    Sys2Proof.core.run 2 s
      = .next { s with
          inputs := [], lastReport := currentReport s, ep1Banks := [],
          answers := s.answers ++ [.data [(currentReport s).b0, (currentReport s).b1, (currentReport s).b2]] } := by
  have hlength : s.ep1Banks.length < s.params.ep1Banks := by rw [hempty]; exact hroom
  have harm := step_engine_inReady1 hs hflag hstage hactive hlength hinputs
  rw [hempty, List.nil_append] at harm
  have htake := step_inToken_report (rest := []) (reports := []) (r := currentReport s)
    (s := { s with
      inputs := [.host (.inToken s.address 1)], lastReport := currentReport s, ep1Banks := [currentReport s] })
    hs.ready hactive rfl rfl
  rw [run_succ harm, run_succ htake, run_zero]

end

/-- Settles O58: the status packet's round returns to IDLE with the banks empty, the next turn arms the current report,
and the IN takes it. -/
theorem configurationMakesTheDeviceReport : Obligations.ConfigurationMakesTheDeviceReport := by
  intro s t a hs hbanks hstate hvalue haccepted hexec
  obtain ⟨-, -, hconfigured, -⟩ := setConfigurationConfiguresTheReportEndpoint.2 s a
  rw [hconfigured hstate hvalue haccepted] at hexec
  cases hexec
  have hround := run_statusRound (n := 2) (p := []) (rest := [.engine, .host (.inToken s.address 1)])
    (s := { statusArmed s with
      ep1Active := true, ep1Banks := [], configuration := BitVec.ofNat 8 a.value.toNat, interfaceAlt := 0,
      devState := .configured, inputs := inRounds s.address 1 ++ [.engine, .host (.inToken s.address 1)] })
    ⟨hs, rfl, rfl, rfl⟩ rfl rfl rfl
  refine ⟨_, hround.trans (run_reportRound ⟨hs, rfl, rfl, rfl⟩ rfl rfl rfl rfl hbanks rfl), ?_, rfl, rfl, rfl, rfl⟩
  exact List.append_assoc _ _ _

end Sys2Proof.Machine
